-- ==== Sys2Proof/Word.lean ====
section
/-! DEFINITION. The words of the part: bytes and half words of its frames, corridor times, and the numbers of
junctions, slots and segments. -/

namespace Sys2Proof

/-- One byte of a frame. -/
abbrev Byte := BitVec 8

/-- A two-byte field of a frame. -/
abbrev Half := BitVec 16

/-- A corridor time: a 32-bit count of deciseconds that wraps (R1). -/
abbrev Time := BitVec 32

/-- The number of a junction context, 0 to 15 (R4). -/
abbrev JunctionId := Fin 16

/-- The number of a request slot, 0 to 95 (R37). -/
abbrev SlotId := Fin 96

/-- The number of a segment record, 0 to 31 (R137). -/
abbrev SegmentId := Fin 32

end Sys2Proof
end

