-- ==== Sys2Proof/Syntax.lean ====
section
/-! DEFINITION. The commands of the part: one constructor of `Instr` per row of spec/opcode_table.json, with the
fields of the frame that carries it (R152, R153, R162) or the number of the timer that runs out (R3). -/

namespace Sys2Proof

/-- The two UART lines that have a frame assembler (R150). -/
inductive Link where
  | detection
  | junction
  deriving DecidableEq, Repr

/-- The fields of a CHECK_IN frame (R152). An optional field is present exactly when its presence bit is set.
A speed of 0xFFFF is the unknown code. -/
structure CheckInMsg where
  vehicle : Half
  junction : Byte
  approach : Byte
  cls : Byte
  sequence : Byte
  distance : Half
  speed : Half
  dwell : Option Half
  deviation : Option Half
  occupancy : Option Byte
  deriving DecidableEq, Repr

/-- The fields of an UPDATE frame (R152): each report field is present exactly when its mask bit is set. -/
structure UpdateMsg where
  vehicle : Half
  junction : Byte
  sequence : Byte
  distance : Option Half
  speed : Option Half
  dwell : Option Half
  deviation : Option Half
  occupancy : Option Byte
  deriving DecidableEq, Repr

/-- The messages of the junction link's receive side (R153), with the junction byte first. -/
inductive JunctionMsg where
  | status (junction mode : Byte)
  | cycleStart (junction count planId : Byte)
  | phaseStart (junction phase : Byte)
  | phaseEnd (junction phase : Byte)
  | passage (junction approach : Byte) (vehicle : Half)
  | accept (junction tag : Byte)
  | decline (junction tag reason : Byte)
  deriving DecidableEq, Repr

/-- The messages of the detection link (R152). -/
inductive DetectionMsg where
  | checkIn (m : CheckInMsg)
  | update (m : UpdateMsg)
  | checkOut (vehicle : Half) (junction : Byte)
  | cancel (vehicle : Half) (junction : Byte)
  deriving DecidableEq, Repr

/-- Why a frame on a link is discarded by its bytes (R151). -/
inductive BadFrameCause where
  | foreignKind
  | wrongLength
  | failedCheck
  | uartError
  deriving DecidableEq, Repr

/-- One of the eight step entries of a PLAN_STAGE body (R162). -/
structure StepBody where
  phase : Byte
  split : Half
  minGreen : Half
  guarded : Byte
  maxExtension : Half
  maxAdvance : Half
  deriving DecidableEq, Repr

/-- One of the four approach map entries of a PLAN_STAGE body; 0xFF marks an absent part (R162). -/
structure ApproachBody where
  priority : Byte
  feeding : Byte
  deriving DecidableEq, Repr

/-- The body of PLAN_STAGE (R162). -/
structure PlanBody where
  junction : Byte
  planId : Byte
  cycle : Half
  count : Byte
  steps : Vector StepBody 8
  approaches : Vector ApproachBody 4
  deriving DecidableEq, Repr

/-- The body of SEGMENT_SET (R162). -/
structure SegmentBody where
  segment : Byte
  source : Byte
  target : Byte
  length : Half
  tmin : Half
  tcap : Half
  tnom : Half
  deriving DecidableEq, Repr

/-- The body of POLICY_SET: the sixteen items in the order of R164's table. -/
structure PolicyBody where
  horizon : Half
  guardTime : Byte
  early : Half
  threshold : Half
  minGrant : Byte
  partials : Byte
  decisionLife : Byte
  debtLimit : Half
  recoveryRate : Byte
  lockoutCycles : Byte
  recordLifetime : Half
  acceptTimeout : Byte
  linkTimeout : Byte
  syncTolerance : Byte
  passageLifetime : Half
  staleTime : Half
  deriving DecidableEq, Repr

/-- The body of RECORD_LOOKUP, RECORD_RETIRE and RECORD_FORCE: how the record is named (R162, R163). -/
structure RecordName where
  mode : Byte
  vehicle : Half
  junction : Byte
  slot : Byte
  generation : Byte
  deriving DecidableEq, Repr

/-- The supervisor's commands, one constructor per code of R162. -/
inductive Command where
  | planStage (b : PlanBody)
  | planRead (junction slotCode : Byte)
  | segmentSet (b : SegmentBody)
  | segmentRead (segment : Byte)
  | policySet (b : PolicyBody)
  | policyRead
  | junctionQuery (junction : Byte)
  | junctionSuspend (junction : Byte)
  | junctionResume (junction : Byte)
  | recordLookup (n : RecordName)
  | recordRetire (n : RecordName)
  | recordForce (n : RecordName)
  | listStart (junction : Byte)
  | listContinue
  | noticeRead
  | noticeWrite (target action : Byte) (mask : Half)
  | corridorClear
  deriving DecidableEq, Repr

/-- The commands the part takes: one constructor per row of spec/opcode_table.json. -/
inductive Instr where
  /-- POWER_ON (R5). -/
  | powerOn
  /-- CHECK_IN (R44): a valid frame has been received. -/
  | checkIn (m : CheckInMsg)
  /-- UPDATE (R48). -/
  | update (m : UpdateMsg)
  /-- CHECK_OUT (R50). -/
  | checkOut (vehicle : Half) (junction : Byte)
  /-- CANCEL (R51). -/
  | cancel (vehicle : Half) (junction : Byte)
  /-- BAD_FRAME (R151): a frame on a link is discarded for its bytes. -/
  | badFrame (link : Link) (cause : BadFrameCause)
  /-- GAP_DEADLINE_EXPIRY (R151). -/
  | gapDeadlineExpiry (link : Link)
  /-- FOREIGN_JUNCTION_FRAME (R154): a valid junction-link frame naming a junction above 15. -/
  | foreignJunctionFrame (m : JunctionMsg)
  /-- STATUS (R9). -/
  | status (junction mode : Byte)
  /-- CYCLE_START (R10). -/
  | cycleStart (junction count planId : Byte)
  /-- PHASE_START (R17). -/
  | phaseStart (junction phase : Byte)
  /-- PHASE_END (R18). -/
  | phaseEnd (junction phase : Byte)
  /-- PASSAGE (R52, R142). -/
  | passage (junction approach : Byte) (vehicle : Half)
  /-- ACCEPT (R110). -/
  | accept (junction tag : Byte)
  /-- DECLINE (R110). -/
  | decline (junction tag reason : Byte)
  /-- LIVENESS_EXPIRY (R8). -/
  | livenessExpiry (j : JunctionId)
  /-- CYCLE_LIMIT_EXPIRY (R16). -/
  | cycleLimitExpiry (j : JunctionId)
  /-- RECORD_EXPIRY (R53). -/
  | recordExpiry (slot : SlotId)
  /-- ACCEPT_DEADLINE_EXPIRY (R113). -/
  | acceptDeadlineExpiry (j : JunctionId)
  /-- PASSAGE_ENTRY_EXPIRY (R143): the entry is the vehicle's. -/
  | passageEntryExpiry (vehicle : Half)
  /-- STALE_DEADLINE_EXPIRY (R146). -/
  | staleDeadlineExpiry (segment : SegmentId)
  /-- EVALUATION_START (R94). -/
  | evaluationStart
  /-- EVALUATION_COMPLETION (R98). -/
  | evaluationCompletion
  /-- SENT_EVENT (R158). -/
  | sentEvent
  /-- COMMAND_FRAME_DISCARDED (R160): a transaction ends whose bytes are these. -/
  | commandFrameDiscarded (first : Byte) (rest : List Byte)
  /-- READ_TRANSACTION (R161): a transaction opened by 0x5A with this many bytes after the first. -/
  | readTransaction (clocked : Nat)
  /-- RESPONSE_READY (R160). -/
  | responseReady
  /-- PLAN_STAGE (R22). -/
  | planStage (b : PlanBody)
  /-- PLAN_READ (R24). -/
  | planRead (junction slotCode : Byte)
  /-- SEGMENT_SET (R139). -/
  | segmentSet (b : SegmentBody)
  /-- SEGMENT_READ (R140). -/
  | segmentRead (segment : Byte)
  /-- POLICY_SET (R164). -/
  | policySet (b : PolicyBody)
  /-- POLICY_READ (R164). -/
  | policyRead
  /-- JUNCTION_QUERY (R163). -/
  | junctionQuery (junction : Byte)
  /-- JUNCTION_SUSPEND (R124). -/
  | junctionSuspend (junction : Byte)
  /-- JUNCTION_RESUME (R124). -/
  | junctionResume (junction : Byte)
  /-- RECORD_LOOKUP (R163). -/
  | recordLookup (n : RecordName)
  /-- RECORD_RETIRE (R54). -/
  | recordRetire (n : RecordName)
  /-- RECORD_FORCE (R42). -/
  | recordForce (n : RecordName)
  /-- LIST_START (R165). -/
  | listStart (junction : Byte)
  /-- LIST_CONTINUE (R165). -/
  | listContinue
  /-- NOTICE_READ (R166). -/
  | noticeRead
  /-- NOTICE_WRITE_ENABLES_SET (R166). -/
  | noticeWriteEnablesSet (mask : Half)
  /-- NOTICE_WRITE_ENABLES_CLEAR (R166). -/
  | noticeWriteEnablesClear (mask : Half)
  /-- NOTICE_WRITE_PENDING_SET (R166). -/
  | noticeWritePendingSet (mask : Half)
  /-- NOTICE_WRITE_PENDING_CLEAR (R166). -/
  | noticeWritePendingClear (mask : Half)
  /-- NOTICE_WRITE_MASTER_ON (R166). -/
  | noticeWriteMasterOn (mask : Half)
  /-- NOTICE_WRITE_MASTER_OFF (R166). -/
  | noticeWriteMasterOff (mask : Half)
  /-- CORRIDOR_CLEAR (R168). -/
  | corridorClear
  /-- CORRIDOR_TIME_TICK (R1). -/
  | corridorTimeTick
  /-- LINK_BYTE_RECEIVED (R150): a byte of a line, with or without a UART error. -/
  | linkByteReceived (link : Link) (byte : Byte) (uartError : Bool)
  /-- NOTICE_WRITE_REFUSED (R166): a NOTICE_WRITE with these codes and mask. -/
  | noticeWriteRefused (target action : Byte) (mask : Half)
  deriving DecidableEq, Repr

end Sys2Proof
end

