-- ==== Sys2Proof/Decode.lean ====
section
/-! DEFINITION. The words of the opcode table. No row of spec/opcode_table.json has any bits (each row's "fields" is
empty and none has "fixed"), so no word spells a command (log 6). The frames that carry commands are read in
Machine/Frames.lean. -/

namespace Sys2Proof

/-- The command a word of the opcode table spells: none, since the table gives no row any bits. -/
def decodeTableWord (_nbits _w : Nat) : Option Instr := none

end Sys2Proof
end

