-- ==== Sys2Proof/Machine/State.lean ====
section
/-! DEFINITION. The state of the part as plain data, with every piece of state INVENTORY.md lists, and its
power-on value. -/

namespace Sys2Proof.Machine

/-- What stops the machine: nothing. The spec gives the part no state in which it stops, so the type has no
constructor and no meaning faults (safe). -/
inductive Fault where
  deriving DecidableEq, Repr

/-- Why a command has no meaning. -/
inductive Refusal where
  /-- A row of the opcode table that has no meaning yet: raised by `exec`'s arm alone (safe: the run stops). -/
  | notModelled (mnemonic : String)
  deriving DecidableEq, Repr

/-! ### Plans (chapter 2) -/

/-- One step entry of a plan (R21). `guarded` is the protected flag. -/
structure PlanStep where
  phase : Nat
  split : Nat
  minGreen : Nat
  guarded : Bool
  maxExtension : Nat
  maxAdvance : Nat
  deriving DecidableEq, Repr

/-- One entry of a plan's approach map (R21): the priority step and the feeding segment, each optional. -/
structure ApproachEntry where
  priority : Option Nat
  feeding : Option SegmentId
  deriving DecidableEq, Repr

/-- A signal plan (R21): its steps in cycle order, step 0 first. -/
structure Plan where
  planId : Byte
  cycle : Nat
  steps : List PlanStep
  approaches : Vector ApproachEntry 4
  deriving DecidableEq, Repr

/-! ### Records (chapter 3) -/

/-- The priority class of a record (R39): 0 schedule, 1 late, 2 headway, 3 forced. -/
inductive PriorityClass where
  | schedule
  | late
  | headway
  | forced
  deriving DecidableEq, Repr

/-- Where a forecast's travel time came from (R59, R60). -/
inductive Source where
  | speed
  | segment
  deriving DecidableEq, Repr

/-- A stored forecast with the parts its kind has (R40, R65). `rho` is the remaining time and `[a, b]` the window. -/
inductive Forecast where
  | value (te : Time) (rho a b : Nat) (source : Source)
  | atBar (te : Time) (rho a b : Nat) (source : Source)
  | beyond (te : Time) (rho : Nat) (source : Source)
  | indefinite (te : Time)
  deriving DecidableEq, Repr

/-- The kind of a decision, with the amount and the partial flag where the kind has them (R40). -/
inductive DecisionKind where
  | none
  | extend (amount : Nat) (part : Bool)
  | advance (amount : Nat) (part : Bool)
  | far
  | noSlack
  | notServed
  deriving DecidableEq, Repr

/-- A stored decision: its kind and the evaluation start time it was reached at (R75). -/
structure Decision where
  kind : DecisionKind
  time : Time
  deriving DecidableEq, Repr

/-- The reasons of TRACKING (R43). -/
inductive TrackReason where
  | far
  | beyond
  | covered
  | early
  | lowScore
  | noSlack
  | lockout
  | notServed
  deriving DecidableEq, Repr

/-- The reasons of HELD (R43). -/
inductive HeldReason where
  | indefinite
  | junctionDark
  deriving DecidableEq, Repr

/-- The state of a record (R43). The reason stands with the two states that have one, and the grant tag with
GRANTED, the one state in which it is present (R41). -/
inductive RecordState where
  | pending
  | tracking (reason : TrackReason)
  | candidate
  | granted (tag : Byte)
  | riding
  | held (reason : HeldReason)
  deriving DecidableEq, Repr

/-- One priority request (R39, R40, R41). -/
structure Record where
  vehicle : Half
  junction : JunctionId
  approach : Fin 4
  cls : PriorityClass
  sequence : Byte
  distance : Nat
  speed : Option Nat
  dwell : Option Nat
  deviation : Option Int
  occupancy : Option Nat
  forecast : Option Forecast
  decision : Option Decision
  score : Nat
  checkInTime : Time
  lastMessage : Time
  expiry : Time
  status : RecordState
  changedInFlight : Bool
  refreshWanted : Bool
  deriving DecidableEq, Repr

/-- One slot of the request table: its generation, and the record it holds if it is occupied (R37). -/
structure Slot where
  generation : Byte
  record : Option Record
  deriving DecidableEq, Repr

/-! ### Junction contexts (chapters 1, 5, 7 and 8) -/

/-- Why a junction is DARK (R4). -/
inductive DarkReason where
  | noPlan
  | awaitingCycle
  | linkLost
  | localMode
  | planMismatch
  | noCycle
  deriving DecidableEq, Repr

/-- The mode a controller reports (R4, R9). -/
inductive LocalMode where
  | coord
  | free
  | flash
  | manual
  deriving DecidableEq, Repr

/-- The sync state (R4): the dark reason is present exactly while DARK, the cycle limit deadline exactly while
LIVE. -/
inductive Sync where
  | dark (reason : DarkReason)
  | live (limit : Time)
  deriving DecidableEq, Repr

/-- EXTEND or ADVANCE (R104). -/
inductive GrantKind where
  | extend
  | advance
  deriving DecidableEq, Repr

/-- The grant mode (R104). -/
inductive GrantMode where
  | idle
  | offered
  | extending
  | advancing
  deriving DecidableEq, Repr

/-- A grant that is offered or accepted (R104): the holder, grant step, kind, amount and offer time, which are
present together. The mode is OFFERED until `accepted`, then EXTENDING or ADVANCING by the kind. -/
structure Grant where
  accepted : Bool
  slot : SlotId
  generation : Byte
  step : Nat
  kind : GrantKind
  amount : Nat
  offerTime : Time
  deriving DecidableEq, Repr

/-- The kind of an outstanding directive; a TRIM keeps its signed amount, which its ACCEPT adds (R131). -/
inductive OutstandingKind where
  | extend
  | advance
  | trim (amount : Int)
  deriving DecidableEq, Repr

/-- The directive of a junction that awaits an answer (R104). -/
structure Outstanding where
  kind : OutstandingKind
  tag : Byte
  deriving DecidableEq, Repr

/-- The last-served summary of a junction (R104). -/
structure Summary where
  vehicle : Half
  kind : GrantKind
  amount : Nat
  arrival : Time
  deriving DecidableEq, Repr

/-- One junction context: its clock (R4), candidate order (R85, R89), grant state (R104) and recovery state
(R125). `frozenPosition` is the cycle position p while DARK; while LIVE p is computed (R6, log 17). -/
structure Junction where
  sync : Sync
  localMode : Option LocalMode
  activePlan : Option Plan
  stagedPlan : Option Plan
  liveness : Option Time
  lastCycleStart : Option Time
  frozenPosition : Nat
  cycleCount : Byte
  currentStep : Option Nat
  stepStart : Option Time
  adjustment : Int
  candidates : List SlotId
  changeCount : Byte
  grant : Option Grant
  tagCounter : Byte
  outstanding : Option Outstanding
  acceptDeadline : Option Time
  releaseQueued : Bool
  suspended : Bool
  lastServed : Option Summary
  debt : Int
  lockout : Nat
  deriving DecidableEq, Repr

/-- A junction context at power-on (R5, R89, R105, R125). -/
def Junction.reset : Junction where
  sync := .dark .noPlan
  localMode := none
  activePlan := none
  stagedPlan := none
  liveness := none
  lastCycleStart := none
  frozenPosition := 0
  cycleCount := 0
  currentStep := none
  stepStart := none
  adjustment := 0
  candidates := []
  changeCount := 0
  grant := none
  tagCounter := 0
  outstanding := none
  acceptDeadline := none
  releaseQueued := false
  suspended := false
  lastServed := none
  debt := 0
  lockout := 0

/-! ### Policy (chapter 11) -/

/-- The sixteen policy items (R164). -/
structure Policy where
  horizon : Nat
  guardTime : Nat
  early : Nat
  threshold : Nat
  minGrant : Nat
  partials : Bool
  decisionLife : Nat
  debtLimit : Nat
  recoveryRate : Nat
  lockoutCycles : Nat
  recordLifetime : Nat
  acceptTimeout : Nat
  linkTimeout : Nat
  syncTolerance : Nat
  passageLifetime : Nat
  staleTime : Nat
  deriving DecidableEq, Repr

/-- The policy at power-on: the defaults of R164's table. -/
def Policy.default : Policy where
  horizon := 1200
  guardTime := 30
  early := 60
  threshold := 150
  minGrant := 20
  partials := true
  decisionLife := 20
  debtLimit := 300
  recoveryRate := 60
  lockoutCycles := 2
  recordLifetime := 1800
  acceptTimeout := 15
  linkTimeout := 50
  syncTolerance := 10
  passageLifetime := 3000
  staleTime := 6000

/-! ### Segments and passages (chapter 9) -/

/-- The state of a configured segment (R137, R138): the stale deadline stands with FRESH and DEGRADED, the two
states in which it is present. -/
inductive SegmentState where
  | fresh (staleAt : Time)
  | degraded (staleAt : Time)
  | stale
  deriving DecidableEq, Repr

/-- A configured segment (R137). An UNCONFIGURED segment holds none of these fields. -/
structure Segment where
  state : SegmentState
  source : JunctionId
  target : JunctionId
  length : Nat
  tmin : Nat
  tcap : Nat
  tnom : Nat
  estimate : Nat
  streak : Nat
  lastSample : Time
  deriving DecidableEq, Repr

/-- One entry of the passage table (R141). -/
structure PassageEntry where
  vehicle : Half
  junction : JunctionId
  entryTime : Time
  expiry : Time
  deriving DecidableEq, Repr

/-! ### The evaluator (chapter 6) -/

/-- The grant state of a junction as an evaluation reads it (R25). -/
structure GrantView where
  mode : GrantMode
  step : Nat
  kind : GrantKind
  amount : Nat
  deriving DecidableEq, Repr

/-- What the forecast needs of the feeding segment (R58): whether its state is FRESH or DEGRADED, its estimate and
its length. -/
structure SegmentView where
  usable : Bool
  estimate : Nat
  length : Nat
  deriving DecidableEq, Repr

/-- Every value an evaluation reads at its start (R25, R58). -/
structure Reads where
  -- the record
  approach : Fin 4
  cls : PriorityClass
  distance : Nat
  speed : Option Nat
  dwell : Option Nat
  deviation : Option Int
  occupancy : Option Nat
  lastMessage : Time
  -- the junction context
  live : Bool
  plan : Option Plan
  currentStep : Option Nat
  stepStart : Option Time
  grant : Option GrantView
  debt : Int
  lockout : Nat
  -- the feeding segment, if the approach map names one that is configured
  segment : Option SegmentView
  -- the policy
  horizon : Nat
  guardTime : Nat
  minGrant : Nat
  partials : Bool
  debtLimit : Nat
  early : Nat
  threshold : Nat
  deriving DecidableEq, Repr

/-- The evaluation in flight (6.2): slot, generation, start time and the values read. -/
structure Flight where
  slot : SlotId
  generation : Byte
  te : Time
  reads : Reads
  deriving DecidableEq, Repr

/-! ### The links (chapter 10) -/

/-- The phases of a frame assembler other than HUNT (R150). -/
inductive RxPhase where
  | length
  | kind
  | body
  | check
  deriving DecidableEq, Repr

/-- A frame assembler (R150): in HUNT, or in another phase with the bytes taken after the sync byte and the gap
deadline, which is present exactly while the phase is not HUNT. -/
inductive Assembler where
  | hunt
  | receiving (phase : RxPhase) (taken : List Byte) (gap : Time)
  deriving DecidableEq, Repr

/-- What a directive asks for (R155): the kind, with its phase number and amount where it has them. -/
inductive DirectiveKind where
  | extend (phase amount : Nat)
  | advance (phase amount : Nat)
  | trim (amount : Int)
  | release
  deriving DecidableEq, Repr

/-- One entry of the directive queue (R155): `sending` is its phase, SENDING or WAITING. -/
structure Directive where
  junction : JunctionId
  kind : DirectiveKind
  tag : Byte
  sending : Bool
  deriving DecidableEq, Repr

/-- The transmitter while BUSY: the frame committed to the line when the sending began (R156, R157), and the
corridor time of that moment (the model's own, for Safety.lean). -/
structure Sending where
  frame : List Byte
  since : Time
  deriving DecidableEq, Repr

/-! ### The supervisor port (chapter 11) -/

/-- The response codes (R162). -/
inductive ResponseCode where
  | ok
  | badField
  | noRecord
  | notAllowed
  | listStale
  | badJunction
  deriving DecidableEq, Repr

/-- A response (R162): the command code it answers, the response code, and the result bytes after it. -/
structure Response where
  kind : Byte
  code : ResponseCode
  result : List Byte
  deriving DecidableEq, Repr

/-- The state of the port (R160). While EXECUTING it holds the response built at the take and the take time (the
model's own, for Safety.lean); while READY the response and its read mark. -/
inductive Port where
  | idle
  | executing (response : Response) (since : Time)
  | ready (response : Response) (readMark : Bool)
  deriving DecidableEq, Repr

/-- The listing cursor (R165). -/
structure Cursor where
  junction : JunctionId
  changeCount : Byte
  position : Nat
  deriving DecidableEq, Repr

/-- The twelve notice categories, in the order of their bit numbers (R166). -/
inductive Category where
  | expired
  | tableFull
  | badRequest
  | frameError
  | junctionDark
  | syncSlip
  | declined
  | offerTimeout
  | lateAnswer
  | debtLimit
  | segmentDegraded
  | soft
  deriving DecidableEq, Repr

/-- What the notice unit holds for one category (R166). -/
structure Notice where
  raised : Bool
  count : Nat
  enabled : Bool
  deriving DecidableEq, Repr

/-! ### The whole part -/

/-- The state of the CX16. `pending` and `freeCount` are the model's own fields (log 18). -/
structure State where
  /-- Corridor time (R1). -/
  time : Time
  /-- The request table (R37). -/
  slots : Vector Slot 96
  /-- The junction contexts (R4). -/
  junctions : Vector Junction 16
  /-- The segment table (R137); `none` is UNCONFIGURED. -/
  segments : Vector (Option Segment) 32
  /-- The passage table in age order, oldest first (R141). -/
  passages : List PassageEntry
  /-- The evaluation queue, head first (R91). -/
  evalQueue : List SlotId
  /-- The evaluator: EVALUATING this, or IDLE (6.2). -/
  flight : Option Flight
  /-- The directive queue, oldest first (R155). -/
  directives : List Directive
  /-- The transmitter: BUSY with this, or IDLE (R157). -/
  transmitter : Option Sending
  /-- The detection link's frame assembler (R150). -/
  detectionRx : Assembler
  /-- The junction link's frame assembler (R150). -/
  junctionRx : Assembler
  /-- The policy in force (R164). -/
  policy : Policy
  /-- The supervisor port (R160). -/
  port : Port
  /-- The bytes the SPI output drove in the latest transaction (R160, R161). -/
  spiDriven : List Byte
  /-- The listing cursor (R165). -/
  cursor : Option Cursor
  /-- The notice unit (R166). -/
  notices : Vector Notice 12
  /-- The master enable (R166). -/
  masterEnable : Bool
  /-- How many free values have been used (Config.lean). -/
  freeCount : Nat
  /-- The commands that are waiting, first in, first out. -/
  pending : List Instr
  deriving DecidableEq, Repr

/-- The part right after power-on: R1, R5, R37, R89, R103, R105, R125, R138, R141, R159, R160, R164, R165, R166. -/
def State.reset : State where
  time := 0
  slots := Vector.replicate 96 ⟨0, none⟩
  junctions := Vector.replicate 16 Junction.reset
  segments := Vector.replicate 32 none
  passages := []
  evalQueue := []
  flight := none
  directives := []
  transmitter := none
  detectionRx := .hunt
  junctionRx := .hunt
  policy := Policy.default
  port := .idle
  spiDriven := []
  cursor := none
  notices := Vector.replicate 12 ⟨false, 0, false⟩
  masterEnable := false
  freeCount := 0
  pending := []

end Sys2Proof.Machine
end

