-- ==== Sys2Proof/Machine/Clock.lean ====
section
/-! DEFINITION. Corridor times and deadlines (R1 to R3). -/

namespace Sys2Proof.Machine

/-- The difference `t1 - t2` of two corridor times as a signed number (R2): positive when `t1` is later, negative
when it is earlier. -/
def timeDiff (t1 t2 : Time) : Int := (t1 - t2).toInt

/-- A corridor time plus a duration, modulo 2^32 (R2). -/
def timeAdd (t : Time) (d : Nat) : Time := t + BitVec.ofNat 32 d

/-- Corridor time has reached a deadline (R3): it is at the deadline or, where the queue brings the expiry late,
past it (log 3). -/
def reached (now deadline : Time) : Bool := decide (0 ≤ timeDiff now deadline)

/-- A deadline that is present and has been reached: the deadline, which is the time its expiry carries (R1). -/
def due (now : Time) (deadline : Option Time) : Option Time := deadline.filter fun d => reached now d

/-- A whole number clamped to a range. -/
def clamp (lo hi x : Int) : Int := max lo (min hi x)

end Sys2Proof.Machine
end

