-- ==== Sys2Proof/Machine/Walk.lean ====
section
/-! DEFINITION. The schedule walk, yields, headrooms and slacks: R26 to R35. -/

namespace Sys2Proof.Machine

/-- What the walk of one evaluation rests on (R25): the plan's steps in cycle order, the running step c, its elapsed
time at t_e, and the grant state read at t_e. -/
structure WalkInput where
  steps : List PlanStep
  current : Nat
  elapsed : Nat
  grant : Option GrantView
  deriving DecidableEq, Repr

/-- The values the walk hands to the decision stage (R35; the order of G_e and F: log 24). -/
structure WalkResult where
  priority : Nat
  greenStart : Nat
  greenEnd : Nat
  nextGreen : Nat
  extensionSlack : Nat
  targetSlack : Nat
  followingSlack : Nat
  deriving DecidableEq, Repr

/-- The elapsed time of the running step, t_e - step start time (R26), which is never negative. -/
def elapsedAt (te start : Time) : Nat := (timeDiff te start).toNat

/-- The step of a plan at a place in cycle order, counted on past the last step (R21). -/
def stepAt (steps : List PlanStep) (i : Nat) : PlanStep :=
  steps.getD (i % steps.length)
    { phase := 0, split := 0, minGreen := 0, guarded := true, maxExtension := 0, maxAdvance := 0 }

/-- The step of occurrence i of the walk: (c + i) modulo n (R27). -/
def occStep (w : WalkInput) (i : Nat) : PlanStep := stepAt w.steps (w.current + i)

/-- The first occurrence of a step in the walk, counting occurrence 0 (R27). -/
def firstOcc (w : WalkInput) (k : Nat) : Nat := (k + w.steps.length - w.current) % w.steps.length

/-- The first occurrence of a step after occurrence 0 (R30). -/
def nextOcc (w : WalkInput) (k : Nat) : Nat := if firstOcc w k = 0 then w.steps.length else firstOcc w k

/-- The remaining time of the running step according to the plan: max(0, S_c - elapsed_c) (R26). -/
def planRemaining (w : WalkInput) : Nat := (occStep w 0).split - w.elapsed

/-- What an extension in progress adds to occurrence i: the granted amount at the first occurrence of the grant step,
nothing elsewhere (R29). -/
def extensionAt (w : WalkInput) (i : Nat) : Nat :=
  match w.grant with
  | some g => if g.mode = .extending ∧ i = firstOcc w g.step then g.amount else 0
  | none => 0

/-- The duration of occurrence i: what is left of the running step for occurrence 0, with the overrun hold, and the
split for the others, each with the extension of R29 (R26, R27, R29). -/
def occDuration (w : WalkInput) (i : Nat) : Nat :=
  if i = 0 then (occStep w 0).split + extensionAt w 0 - w.elapsed else (occStep w i).split + extensionAt w i

/-- The start offset of occurrence i before an advance is applied (R27). -/
def planStart (w : WalkInput) : Nat → Nat
  | 0 => 0
  | i + 1 => planStart w i + occDuration w i

/-- The yield of occurrence i (R31). -/
def occYield (w : WalkInput) (i : Nat) : Nat :=
  if (occStep w i).guarded then 0
  else if i = 0 then planRemaining w - ((occStep w 0).minGreen - w.elapsed)
  else (occStep w i).split - (occStep w i).minGreen

/-- The sum of the yields of the occurrences from `lo` up to, but not including, `hi`. -/
def yieldSum (w : WalkInput) (lo hi : Nat) : Nat := ((List.range (hi - lo)).map fun k => occYield w (lo + k)).sum

/-- The yield sum of the donors of the advanced green (R30, R32): every occurrence before it, or, where the granted
step is running, every occurrence after the running one. -/
def advancedYield (w : WalkInput) (step : Nat) : Nat :=
  if firstOcc w step = 0 then yieldSum w 1 w.steps.length else yieldSum w 0 (firstOcc w step)

/-- How much earlier an advance in progress brings occurrence i: the smaller of the granted amount and the donors'
yields, from the advanced occurrence on (R30). -/
def advanceAt (w : WalkInput) (i : Nat) : Nat :=
  match w.grant with
  | some g => if g.mode = .advancing ∧ nextOcc w g.step ≤ i then min g.amount (advancedYield w g.step) else 0
  | none => 0

/-- The start offset of occurrence i (R27, R30). -/
def occStart (w : WalkInput) (i : Nat) : Nat := planStart w i - advanceAt w i

/-- The end offset of occurrence i (R27, R30). -/
def occEnd (w : WalkInput) (i : Nat) : Nat := planStart w i + occDuration w i - advanceAt w i

/-- The yield sum Y of the target green's donors (R32). -/
def targetYield (w : WalkInput) (phi : Nat) : Nat := yieldSum w 0 (firstOcc w phi)

/-- The yield sum Y of the following green's donors (R32). -/
def followingYield (w : WalkInput) (phi : Nat) : Nat :=
  yieldSum w (firstOcc w phi + 1) (firstOcc w phi + w.steps.length)

/-- Extension headroom: max(0, Dmax - debt) (R33). -/
def extensionHeadroom (debtLimit : Nat) (debt : Int) : Nat := ((debtLimit : Int) - debt).toNat

/-- Advance headroom: max(0, Dmax + debt) (R33). -/
def advanceHeadroom (debtLimit : Nat) (debt : Int) : Nat := ((debtLimit : Int) + debt).toNat

/-- The walk and the slacks of a record whose priority step is `phi` (R27, R34, R35). DESIGN CHOICE (log 24): where an advance
takes time from the target green itself, R30 moves F and leaves G_e, so F can fall below G_e although R35 gives F a range
from G_e; F is handed on as R30 leaves it. -/
def walk (w : WalkInput) (phi debtLimit : Nat) (debt : Int) : WalkResult :=
  let t := firstOcc w phi
  let step := stepAt w.steps phi
  { priority := phi
    greenStart := occStart w t
    greenEnd := occEnd w t
    nextGreen := occStart w (t + w.steps.length)
    extensionSlack := min step.maxExtension (extensionHeadroom debtLimit debt)
    targetSlack := min step.maxAdvance (min (targetYield w phi) (advanceHeadroom debtLimit debt))
    followingSlack := min step.maxAdvance (min (followingYield w phi) (advanceHeadroom debtLimit debt)) }

end Sys2Proof.Machine
end

