-- ==== Sys2Proof/Machine/Forecast.lean ====
section
/-! DEFINITION. Forecasts, decisions and scores, worked out from the values read at evaluation start: R59 to R79. -/

namespace Sys2Proof.Machine

/-! ### The forecast (R59 to R65) -/

/-- ceiling(x / y) (00_scope.md 1.5). -/
def ceilDiv (x y : Nat) : Nat := (x + y - 1) / y

/-- The travel time from the feeding segment, where one is named that is FRESH or DEGRADED (R60). -/
def segmentTime (r : Reads) : Option (Nat × Source) :=
  match r.segment with
  | some g => if g.usable then some (ceilDiv (g.estimate * r.distance) g.length, .segment) else none
  | none => none

/-- The travel time and its source, or none where the forecast is INDEFINITE (R59, R60). -/
def travelTime (r : Reads) : Option (Nat × Source) :=
  if r.distance = 0 then some (0, .speed)
  else
    match r.speed with
    | some v => if 20 ≤ v then some (ceilDiv (100 * r.distance) v, .speed) else segmentTime r
    | none => segmentTime r

/-- The remaining time: max(0, travel time + dwell - elapsed), an absent dwell counting 0 (R61). -/
def remainingTime (r : Reads) (te : Time) (tau : Nat) : Nat :=
  ((tau : Int) + (r.dwell.getD 0 : Nat) - timeDiff te r.lastMessage).toNat

/-- The forecast of an evaluation (R62, R64, R65). -/
def forecastOf (r : Reads) (te : Time) : Forecast :=
  match travelTime r with
  | none => .indefinite te
  | some (tau, src) =>
    let rho := remainingTime r te tau
    let a := rho - rho / 8
    let b := rho + rho / 8 + r.guardTime
    if r.horizon < rho then .beyond te rho src
    else if r.distance = 0 ∨ rho = 0 then .atBar te rho a b src
    else .value te rho a b src

/-- The window of a forecast, where its kind has one (R64). -/
def windowOf : Forecast → Option (Nat × Nat)
  | .value _ _ a b _ => some (a, b)
  | .atBar _ _ a b _ => some (a, b)
  | .beyond _ _ _ => none
  | .indefinite _ => none

/-- The source of a forecast, where it has one (R65). -/
def sourceOf : Forecast → Option Source
  | .value _ _ _ _ s => some s
  | .atBar _ _ _ _ s => some s
  | .beyond _ _ s => some s
  | .indefinite _ => none

/-! ### The decision (R66 to R74) -/

/-- The amount a need gets from a slack, and whether it is partial: none where the decision is NO_SLACK (R73). -/
def grantAmount (r : Reads) (need slack : Nat) : Option (Nat × Bool) :=
  if need ≤ slack then
    if r.minGrant ≤ need then some (need, false)
    else if r.minGrant ≤ slack then some (r.minGrant, false)
    else none
  else if r.partials ∧ r.minGrant ≤ slack then some (slack, true)
  else none

/-- The decision an amount gives for an extension (R73). -/
def extendBy : Option (Nat × Bool) → DecisionKind
  | some (amount, part) => .extend amount part
  | none => .noSlack

/-- The decision an amount gives for an advance (R73). -/
def advanceBy : Option (Nat × Bool) → DecisionKind
  | some (amount, part) => .advance amount part
  | none => .noSlack

/-- The decision for a window against the walk: the first case of R67 that holds (R67 to R72). -/
def decisionCase (r : Reads) (w : WalkResult) (a b : Nat) : DecisionKind :=
  if w.nextGreen ≤ a then .far
  else if w.greenStart ≤ a ∧ b ≤ w.greenEnd then .none
  else if a < w.greenStart then advanceBy (grantAmount r (w.greenStart - a) w.targetSlack)
  else if a < w.greenEnd then extendBy (grantAmount r (b - w.greenEnd) w.extensionSlack)
  else if max (b - w.greenEnd) r.minGrant ≤ w.extensionSlack then .extend (max (b - w.greenEnd) r.minGrant) false
  else advanceBy (grantAmount r (w.nextGreen - a) w.followingSlack)

/-- What an evaluation hands to completion for the stored decision (R75). -/
inductive DecisionUpdate where
  | clear
  | keep
  | store (d : Decision)
  deriving DecidableEq, Repr

/-- The outcome of an evaluation (R76). -/
inductive EvalOutcome where
  | indefinite
  | beyond
  | dark
  | notServed
  | far
  | none
  | extend (amount : Nat)
  | advance (amount : Nat)
  | noSlack
  deriving DecidableEq, Repr

/-- The outcome a decision of path 4 gives (R76). -/
def outcomeOf : DecisionKind → EvalOutcome
  | .none => .none
  | .extend n _ => .extend n
  | .advance n _ => .advance n
  | .far => .far
  | .noSlack => .noSlack
  | .notServed => .notServed

/-- The approach map entry the evaluation read (R25). -/
def readEntry (r : Reads) : Option ApproachEntry := r.plan.map fun p => p.approaches[r.approach]

/-- The priority step the evaluation read (R25). -/
def readPriority (r : Reads) : Option Nat := (readEntry r).bind ApproachEntry.priority

/-- The walk of an evaluation at a LIVE junction with a priority step (R25, R26). -/
def walkOf (r : Reads) (te : Time) (phi : Nat) : WalkResult :=
  walk
    { steps := (r.plan.map Plan.steps).getD []
      current := r.currentStep.getD 0
      elapsed := elapsedAt te (r.stepStart.getD te)
      grant := r.grant }
    phi r.debtLimit r.debt

/-- The outcome where the forecast alone decides it, and another otherwise (R76). -/
def forecastOutcome (f : Forecast) (other : EvalOutcome) : EvalOutcome :=
  match f with
  | .indefinite _ => .indefinite
  | .beyond _ _ _ => .beyond
  | _ => other

/-- The decision handed to completion and the outcome, by the path of R66 (R66, R75, R76). -/
def decisionOf (r : Reads) (te : Time) : DecisionUpdate × EvalOutcome :=
  let f := forecastOf r te
  if r.live = false then (.clear, forecastOutcome f .dark)
  else
    match readPriority r with
    | none => (.store { kind := .notServed, time := te }, forecastOutcome f .notServed)
    | some phi =>
      match windowOf f with
      | none => (.keep, forecastOutcome f .noSlack)
      | some (a, b) =>
        let d := decisionCase r (walkOf r te phi) a b
        (.store { kind := d, time := te }, outcomeOf d)

/-! ### The score (R77, R78) -/

/-- The amount term of an outcome (R76). -/
def amountTerm : EvalOutcome → Nat
  | .extend n => n
  | .advance n => n
  | _ => 0

/-- The base of a class below 3 (R77). -/
def classBase : PriorityClass → Nat
  | .schedule => 0
  | .late => 150
  | .headway => 300
  | .forced => 300

/-- The score of an evaluation: 1023 for class 3 (R78), otherwise base, lateness and load less the cost, clamped to
0 to 1022 (R77). An absent deviation or occupancy counts 0. -/
def scoreOf (r : Reads) (o : EvalOutcome) : Nat :=
  if r.cls = .forced then 1023
  else
    (clamp 0 1022
      ((classBase r.cls : Int) + 2 * min (max (r.deviation.getD 0) 0) 300
        + ((min (r.occupancy.getD 0) 150 * 2 / 3 : Nat) : Int) - ((amountTerm o / 4 : Nat) : Int))).toNat

/-! ### The whole evaluation -/

/-- What an evaluation hands to completion (R65, R75, R76, R77). -/
structure EvalResult where
  forecast : Forecast
  decision : DecisionUpdate
  outcome : EvalOutcome
  score : Nat
  deriving DecidableEq, Repr

/-- The result of an evaluation from the values read at its start (R94). -/
def evaluate (r : Reads) (te : Time) : EvalResult :=
  { forecast := forecastOf r te
    decision := (decisionOf r te).1
    outcome := (decisionOf r te).2
    score := scoreOf r (decisionOf r te).2 }

end Sys2Proof.Machine
end

