-- ==== Sys2Proof/Config.lean ====
section
/-! DEFINITION. What the spec leaves open: constants without a body, of which nothing can be proved. -/

namespace Sys2Proof

/-- A byte the spec gives no value: the first byte driven in a read transaction, the bytes driven in a
transaction of neither kind (log 10), and the bytes of absent fields in a RECORD_LOOKUP result (log 11).
The argument is `State.freeCount`, which moves on at each use. -/
opaque Config.freeByte : Nat → Byte

/-- The order in which one CORRIDOR_CLEAR takes the junctions whose grants it ends: lower ranks first. R123 and
R168 give no order (log 12). The first argument is `State.freeCount`. -/
opaque Config.clearRank : Nat → JunctionId → Nat

end Sys2Proof
end

