-- ==== Sys2Proof/Machine/Frames.lean ====
section
/-! DEFINITION. The byte layouts of the frames on the three lines: R149, R152, R153 and R162. -/

namespace Sys2Proof.Machine

/-! ### Bytes -/

/-- A half word from its two bytes, low byte first (R149). -/
def half (lo hi : Byte) : Half := hi ++ lo

/-- A number as one byte. -/
def byteOf (n : Nat) : Byte := BitVec.ofNat 8 n

/-- A half word as two bytes, low byte first (R149). -/
def le16 (h : Half) : List Byte := [h.setWidth 8, (h >>> 8).setWidth 8]

/-- A number as two bytes, low byte first. -/
def le16Nat (n : Nat) : List Byte := le16 (BitVec.ofNat 16 n)

/-- A signed number as two bytes of two's complement, low byte first (R149). -/
def le16Int (i : Int) : List Byte := le16 (BitVec.ofInt 16 i)

/-- A 32-bit word as four bytes, low byte first (R149). -/
def le32 (t : Time) : List Byte :=
  [t.setWidth 8, (t >>> 8).setWidth 8, (t >>> 16).setWidth 8, (t >>> 24).setWidth 8]

/-! ### The frame and its check (R149) -/

/-- One bit step of the check register: generator 0x1021. -/
def crcBit (c : Half) : Half := if c.msb then (c <<< 1) ^^^ 0x1021#16 else c <<< 1

/-- One byte fed to the check register, most significant bit first. -/
def crcByte (c : Half) (b : Byte) : Half :=
  crcBit (crcBit (crcBit (crcBit (crcBit (crcBit (crcBit (crcBit (c ^^^ (b.setWidth 16 <<< 8)))))))))

/-- The 16-bit check of a list of bytes, from 0xFFFF, neither reflected nor inverted (R149). -/
def crc16 (bytes : List Byte) : Half := bytes.foldl crcByte 0xFFFF#16

/-- The frame of a kind and a body: sync, length, kind, body, and the check over length, kind and body (R149). -/
def frameOf (kind : Byte) (body : List Byte) : List Byte :=
  let covered := byteOf body.length :: kind :: body
  0xA5#8 :: (covered ++ le16 (crc16 covered))

/-! ### Link messages (R152, R153) -/

/-- The fixed body size of a kind code of the detection link, if it is one (R152). -/
def detectionSize (kind : Byte) : Option Nat :=
  if kind = 0x11#8 then some 16
  else if kind = 0x12#8 then some 14
  else if kind = 0x13#8 then some 3
  else if kind = 0x14#8 then some 3
  else none

/-- The fixed body size of a kind code of the junction link's receive side, if it is one (R153). -/
def junctionSize (kind : Byte) : Option Nat :=
  if kind = 0x21#8 then some 2
  else if kind = 0x22#8 then some 3
  else if kind = 0x23#8 then some 2
  else if kind = 0x24#8 then some 2
  else if kind = 0x25#8 then some 4
  else if kind = 0x26#8 then some 2
  else if kind = 0x27#8 then some 3
  else none

/-- The fixed body size of a kind on a link's receive side (R150). -/
def bodySize (link : Link) (kind : Byte) : Option Nat :=
  match link with
  | .detection => detectionSize kind
  | .junction => junctionSize kind

/-- A field that is present exactly when a bit of a presence byte is set (R152). -/
def presentIf {α : Type} (presence : Byte) (bit : Nat) (x : α) : Option α :=
  if presence.getLsbD bit then some x else none

/-- The message of a detection link body (R152). -/
def detectionMsg (kind : Byte) (body : List Byte) : Option DetectionMsg :=
  match body with
  | [v0, v1, j, a, c, q, p, d0, d1, s0, s1, w0, w1, e0, e1, o] =>
    if kind = 0x11#8 then
      some (.checkIn
        { vehicle := half v0 v1, junction := j, approach := a, cls := c, sequence := q,
          distance := half d0 d1, speed := half s0 s1,
          dwell := presentIf p 0 (half w0 w1), deviation := presentIf p 1 (half e0 e1),
          occupancy := presentIf p 2 o })
    else none
  | [v0, v1, j, q, p, d0, d1, s0, s1, w0, w1, e0, e1, o] =>
    if kind = 0x12#8 then
      some (.update
        { vehicle := half v0 v1, junction := j, sequence := q,
          distance := presentIf p 0 (half d0 d1), speed := presentIf p 1 (half s0 s1),
          dwell := presentIf p 2 (half w0 w1), deviation := presentIf p 3 (half e0 e1),
          occupancy := presentIf p 4 o })
    else none
  | [v0, v1, j] =>
    if kind = 0x13#8 then some (.checkOut (half v0 v1) j)
    else if kind = 0x14#8 then some (.cancel (half v0 v1) j)
    else none
  | _ => none

/-- The message of a junction link body (R153). -/
def junctionMsg (kind : Byte) (body : List Byte) : Option JunctionMsg :=
  match body with
  | [j, x] =>
    if kind = 0x21#8 then some (.status j x)
    else if kind = 0x23#8 then some (.phaseStart j x)
    else if kind = 0x24#8 then some (.phaseEnd j x)
    else if kind = 0x26#8 then some (.accept j x)
    else none
  | [j, x, y] =>
    if kind = 0x22#8 then some (.cycleStart j x y)
    else if kind = 0x27#8 then some (.decline j x y)
    else none
  | [j, a, v0, v1] => if kind = 0x25#8 then some (.passage j a (half v0 v1)) else none
  | _ => none

/-- The junction byte of a junction link message (R153). -/
def msgJunction : JunctionMsg → Byte
  | .status j _ => j
  | .cycleStart j _ _ => j
  | .phaseStart j _ => j
  | .phaseEnd j _ => j
  | .passage j _ _ => j
  | .accept j _ => j
  | .decline j _ _ => j

/-- The frame of a directive, from the fields its entry holds (R153, R157). -/
def directiveFrame (d : Directive) : List Byte :=
  let j := byteOf d.junction.val
  match d.kind with
  | .extend phase amount => frameOf 0x31#8 ([j, d.tag, byteOf phase] ++ le16Nat amount)
  | .advance phase amount => frameOf 0x32#8 ([j, d.tag, byteOf phase] ++ le16Nat amount)
  | .trim amount => frameOf 0x33#8 ([j, d.tag] ++ le16Int amount)
  | .release => frameOf 0x34#8 [j, d.tag]

/-! ### Command frames (R162) -/

/-- The fixed body length of a command code, if it is one (R162). -/
def commandSize (kind : Byte) : Option Nat :=
  if kind = 0x41#8 then some 93
  else if kind = 0x42#8 then some 2
  else if kind = 0x43#8 then some 11
  else if kind = 0x44#8 then some 1
  else if kind = 0x45#8 then some 23
  else if kind = 0x46#8 then some 0
  else if kind = 0x47#8 then some 1
  else if kind = 0x48#8 then some 1
  else if kind = 0x49#8 then some 1
  else if kind = 0x4A#8 then some 6
  else if kind = 0x4B#8 then some 6
  else if kind = 0x4C#8 then some 6
  else if kind = 0x4D#8 then some 1
  else if kind = 0x4E#8 then some 0
  else if kind = 0x4F#8 then some 0
  else if kind = 0x50#8 then some 4
  else if kind = 0x51#8 then some 0
  else none

/-- The byte of a body at an offset. -/
def byteAt (body : List Byte) (i : Nat) : Byte := body.getD i 0

/-- The little-endian half word of a body at an offset. -/
def halfAt (body : List Byte) (i : Nat) : Half := half (byteAt body i) (byteAt body (i + 1))

/-- The plan carried by a PLAN_STAGE body (R162). -/
def planBodyOf (b : List Byte) : PlanBody where
  junction := byteAt b 0
  planId := byteAt b 1
  cycle := halfAt b 2
  count := byteAt b 4
  steps := Vector.ofFn fun i : Fin 8 =>
    let o := 5 + 10 * i.val
    { phase := byteAt b o, split := halfAt b (o + 1), minGreen := halfAt b (o + 3), guarded := byteAt b (o + 5),
      maxExtension := halfAt b (o + 6), maxAdvance := halfAt b (o + 8) }
  approaches := Vector.ofFn fun i : Fin 4 =>
    { priority := byteAt b (85 + 2 * i.val), feeding := byteAt b (86 + 2 * i.val) }

/-- The fields of a SEGMENT_SET body (R162). -/
def segmentBodyOf (b : List Byte) : SegmentBody where
  segment := byteAt b 0
  source := byteAt b 1
  target := byteAt b 2
  length := halfAt b 3
  tmin := halfAt b 5
  tcap := halfAt b 7
  tnom := halfAt b 9

/-- The items of a POLICY_SET body, in the order of R164's table. -/
def policyBodyOf (b : List Byte) : PolicyBody where
  horizon := halfAt b 0
  guardTime := byteAt b 2
  early := halfAt b 3
  threshold := halfAt b 5
  minGrant := byteAt b 7
  partials := byteAt b 8
  decisionLife := byteAt b 9
  debtLimit := halfAt b 10
  recoveryRate := byteAt b 12
  lockoutCycles := byteAt b 13
  recordLifetime := halfAt b 14
  acceptTimeout := byteAt b 16
  linkTimeout := byteAt b 17
  syncTolerance := byteAt b 18
  passageLifetime := halfAt b 19
  staleTime := halfAt b 21

/-- How a command body names a record (R162). -/
def recordNameOf (b : List Byte) : RecordName where
  mode := byteAt b 0
  vehicle := halfAt b 1
  junction := byteAt b 3
  slot := byteAt b 4
  generation := byteAt b 5

/-- The command of a command code and a body of its length (R162). -/
def commandOf (kind : Byte) (b : List Byte) : Option Command :=
  if commandSize kind ≠ some b.length then none
  else if kind = 0x41#8 then some (.planStage (planBodyOf b))
  else if kind = 0x42#8 then some (.planRead (byteAt b 0) (byteAt b 1))
  else if kind = 0x43#8 then some (.segmentSet (segmentBodyOf b))
  else if kind = 0x44#8 then some (.segmentRead (byteAt b 0))
  else if kind = 0x45#8 then some (.policySet (policyBodyOf b))
  else if kind = 0x46#8 then some .policyRead
  else if kind = 0x47#8 then some (.junctionQuery (byteAt b 0))
  else if kind = 0x48#8 then some (.junctionSuspend (byteAt b 0))
  else if kind = 0x49#8 then some (.junctionResume (byteAt b 0))
  else if kind = 0x4A#8 then some (.recordLookup (recordNameOf b))
  else if kind = 0x4B#8 then some (.recordRetire (recordNameOf b))
  else if kind = 0x4C#8 then some (.recordForce (recordNameOf b))
  else if kind = 0x4D#8 then some (.listStart (byteAt b 0))
  else if kind = 0x4E#8 then some .listContinue
  else if kind = 0x4F#8 then some .noticeRead
  else if kind = 0x50#8 then some (.noticeWrite (byteAt b 0) (byteAt b 1) (halfAt b 2))
  else if kind = 0x51#8 then some .corridorClear
  else none

/-- The command code of a command (R162). -/
def commandCode : Command → Byte
  | .planStage _ => 0x41#8
  | .planRead _ _ => 0x42#8
  | .segmentSet _ => 0x43#8
  | .segmentRead _ => 0x44#8
  | .policySet _ => 0x45#8
  | .policyRead => 0x46#8
  | .junctionQuery _ => 0x47#8
  | .junctionSuspend _ => 0x48#8
  | .junctionResume _ => 0x49#8
  | .recordLookup _ => 0x4A#8
  | .recordRetire _ => 0x4B#8
  | .recordForce _ => 0x4C#8
  | .listStart _ => 0x4D#8
  | .listContinue => 0x4E#8
  | .noticeRead => 0x4F#8
  | .noticeWrite _ _ _ => 0x50#8
  | .corridorClear => 0x51#8

/-- The command that the bytes after the sync byte of a command transaction form, if they form exactly one frame
with a command code, its length and a good check (R160). -/
def commandFrame (rest : List Byte) : Option Command :=
  match rest with
  | len :: kind :: tail =>
    let body := tail.take len.toNat
    if tail.length = len.toNat + 2 ∧ tail.drop len.toNat = le16 (crc16 (len :: kind :: body)) then commandOf kind body
    else none
  | _ => none

end Sys2Proof.Machine
end

