-- ==== Sys2Proof/Machine/Ops.lean ====
section
/-! DEFINITION. The named operations every meaning is built from: reads and updates of slots, junction contexts and
segments, notices and ATTN, the evaluation queue, the directive queue and the transmitter. -/

namespace Sys2Proof.Machine

/-! ### Reads and updates -/

/-- The junction context of a junction. -/
def junctionAt (s : State) (j : JunctionId) : Junction := s.junctions[j]

/-- The state with one junction context changed. -/
def onJunction (j : JunctionId) (f : Junction → Junction) (s : State) : State :=
  { s with junctions := s.junctions.set j (f (junctionAt s j)) }

/-- One slot of the request table. -/
def slotAt (s : State) (i : SlotId) : Slot := s.slots[i]

/-- The record in a slot, if it is occupied. -/
def recordAt (s : State) (i : SlotId) : Option Record := (slotAt s i).record

/-- The state with one slot changed. -/
def onSlot (i : SlotId) (f : Slot → Slot) (s : State) : State := { s with slots := s.slots.set i (f (slotAt s i)) }

/-- The state with the record of a slot changed, where the slot is occupied. The generation stays (R37). -/
def onRecord (i : SlotId) (f : Record → Record) (s : State) : State :=
  onSlot i (fun sl => { sl with record := sl.record.map f }) s

/-- One record of the segment table. -/
def segmentAt (s : State) (k : SegmentId) : Option Segment := s.segments[k]

/-- The state with one segment record replaced. -/
def setSegment (k : SegmentId) (g : Option Segment) (s : State) : State := { s with segments := s.segments.set k g }

/-- Every record that meets a test is changed; the others stay. -/
def onRecordsWhere (p : Record → Bool) (f : Record → Record) (s : State) : State :=
  { s with slots := s.slots.map fun sl => { sl with record := sl.record.map fun r => if p r then f r else r } }

/-- The occupied slots that meet a test of the slot and its record, in ascending slot order (R92). -/
def slotsWhere (s : State) (p : SlotId → Record → Bool) : List SlotId :=
  (List.finRange 96).filter fun i => (recordAt s i).any (p i)

/-- The junction a frame or command names, if it is 0 to 15 (R154, R163). -/
def junctionOf (b : Byte) : Option JunctionId := if h : b.toNat < 16 then some ⟨b.toNat, h⟩ else none

/-- A vehicle number a record or a passage entry can hold: 1 to 65534 (R39, R141). -/
def realVehicle (v : Half) : Bool := decide (1 ≤ v.toNat ∧ v.toNat ≤ 65534)

/-- The slot that holds the record of a key, if one does (R38). Vehicles 0 and 65535 and junctions above 15 find no
record (R48, R52, R163). -/
def findKey (s : State) (v : Half) (j : Byte) : Option SlotId :=
  if realVehicle v then
    (List.finRange 96).find? fun i =>
      (recordAt s i).any fun r => decide (r.vehicle = v) && decide (r.junction.val = j.toNat)
  else none

/-! ### Notices (R166, R167) -/

/-- The bit number of a category (R166). -/
def categoryBit : Category → Fin 12
  | .expired => 0
  | .tableFull => 1
  | .badRequest => 2
  | .frameError => 3
  | .junctionDark => 4
  | .syncSlip => 5
  | .declined => 6
  | .offerTimeout => 7
  | .lateAnswer => 8
  | .debtLimit => 9
  | .segmentDegraded => 10
  | .soft => 11

/-- A category raised: its flag is set and its count rises by one, saturating at 255 (R166). -/
def raisedNotice (n : Notice) : Notice := { n with raised := true, count := min 255 (n.count + 1) }

/-- One category of the notice unit changed. -/
def onNotice (c : Category) (f : Notice → Notice) (s : State) : State :=
  { s with notices := s.notices.set (categoryBit c) (f s.notices[categoryBit c]) }

/-- A notice is raised once (R166). -/
def raise (c : Category) (s : State) : State := onNotice c raisedNotice s

/-- A notice is raised where a condition holds. -/
def raiseIf (b : Bool) (c : Category) (s : State) : State := if b then raise c s else s

/-- The ATTN line: asserted while the master enable is on and a category is both pending and enabled (R167). -/
def attn (s : State) : Bool := s.masterEnable && s.notices.toList.any fun n => n.raised && n.enabled

/-- The RDY line: high while the port is READY with the read mark clear (R160). -/
def rdy (s : State) : Bool :=
  match s.port with
  | .ready _ mark => !mark
  | _ => false

/-! ### The evaluation queue (R91, R92) -/

/-- A slot is placed in the evaluation queue: at the tail, unless it is already there (R91). The queue holds only
occupied slots, so a vacant one is not placed (log 16). -/
def enqueue (i : SlotId) (s : State) : State :=
  if i ∈ s.evalQueue ∨ (recordAt s i).isNone = true then s else { s with evalQueue := s.evalQueue ++ [i] }

/-- A group of slots is placed in the evaluation queue, in the order given (R92). -/
def enqueueAll (l : List SlotId) (s : State) : State := l.foldl (fun t i => enqueue i t) s

/-- Every record that meets a test of its slot and itself is placed in the evaluation queue, in ascending slot order
(R92). -/
def enqueueSlots (p : SlotId → Record → Bool) (s : State) : State := enqueueAll (slotsWhere s p) s

/-- Every record that meets a test is placed in the evaluation queue, in ascending slot order (R92). -/
def enqueueWhere (p : Record → Bool) (s : State) : State := enqueueSlots (fun _ => p) s

/-- A slot leaves the evaluation queue, and the entries behind it keep their order (R91). -/
def dequeue (i : SlotId) (s : State) : State := { s with evalQueue := s.evalQueue.erase i }

/-! ### Junction views -/

/-- The junction is LIVE (R4). -/
def isLive (c : Junction) : Bool :=
  match c.sync with
  | .live _ => true
  | .dark _ => false

/-- The grant mode of a junction (R104). -/
def modeOf (c : Junction) : GrantMode :=
  match c.grant with
  | none => .idle
  | some g =>
    if g.accepted then
      match g.kind with
      | .extend => .extending
      | .advance => .advancing
    else .offered

/-- The cycle position p at a corridor time: measured from the last cycle start while LIVE, frozen while DARK (R6). -/
def positionAt (now : Time) (c : Junction) : Nat :=
  match c.sync, c.lastCycleStart with
  | .live _, some t => (timeDiff now t).toNat
  | _, _ => c.frozenPosition

/-- The steps of a junction's active plan. -/
def activeSteps (c : Junction) : List PlanStep := (c.activePlan.map Plan.steps).getD []

/-- The approach map entry of a junction's active plan for an approach (R21). -/
def approachOf (c : Junction) (q : Fin 4) : Option ApproachEntry := c.activePlan.map fun p => p.approaches[q]

/-- The priority step the active plan gives an approach, if it gives one (R21). -/
def priorityOf (c : Junction) (q : Fin 4) : Option Nat := (approachOf c q).bind ApproachEntry.priority

/-- The feeding segment the active plan gives an approach, if it gives one (R21). -/
def feedingOf (c : Junction) (q : Fin 4) : Option SegmentId := (approachOf c q).bind ApproachEntry.feeding

/-- The grant tag of the record in a slot, while it is GRANTED (R41). -/
def grantTagAt (s : State) (i : SlotId) : Option Byte :=
  match (recordAt s i).map Record.status with
  | some (.granted tag) => some tag
  | _ => none

/-- The evaluation in flight is of the record that now occupies this slot (R96). -/
def inFlight (s : State) (i : SlotId) : Bool :=
  match s.flight with
  | some f => decide (f.slot = i) && decide (f.generation = (slotAt s i).generation)
  | none => false

/-! ### The directive queue and the transmitter (R155 to R157) -/

/-- The kind of a directive entry is RELEASE. -/
def isRelease (k : DirectiveKind) : Bool :=
  match k with
  | .release => true
  | _ => false

/-- The kind of a directive entry is EXTEND or ADVANCE. -/
def isGrantKind (k : DirectiveKind) : Bool :=
  match k with
  | .extend _ _ => true
  | .advance _ _ => true
  | _ => false

/-- The position of the entry the transmitter chooses: the oldest WAITING RELEASE, otherwise the oldest WAITING
entry (R157). -/
def chosenEntry (q : List Directive) : Option Nat :=
  match q.findIdx? fun d => !d.sending && isRelease d.kind with
  | some i => some i
  | none => q.findIdx? fun d => !d.sending

/-- The transmitter chooses its next entry if it is IDLE and an entry is WAITING: the entry becomes SENDING, and the
frame built from its fields is committed to the line (R156, R157). -/
def transmitNext (now : Time) (s : State) : State :=
  match s.transmitter, chosenEntry s.directives with
  | none, some i =>
    match s.directives[i]? with
    | some d =>
      { s with
        directives := s.directives.set i { d with sending := true }
        transmitter := some { frame := directiveFrame d, since := now } }
    | none => s
  | _, _ => s

/-- An entry joins the directive queue, WAITING, and the transmitter chooses if it is IDLE (R156, R157). -/
def queueDirective (now : Time) (j : JunctionId) (k : DirectiveKind) (tag : Byte) (s : State) : State :=
  transmitNext now
    { s with directives := s.directives ++ [{ junction := j, kind := k, tag := tag, sending := false }] }

/-- A RELEASE is queued for a junction: a new entry with the release queued flag set, or, where the flag is set, a new
tag in the entry that is queued (R118). -/
def queueRelease (now : Time) (j : JunctionId) (tag : Byte) (s : State) : State :=
  if (junctionAt s j).releaseQueued then
    { s with
      directives := s.directives.map fun d =>
        if d.junction = j ∧ isRelease d.kind = true then { d with tag := tag } else d }
  else queueDirective now j .release tag (onJunction j (fun c => { c with releaseQueued := true }) s)

/-- A WAITING entry of a junction whose kind meets a test. -/
def waitingEntry (j : JunctionId) (p : DirectiveKind → Bool) (d : Directive) : Bool :=
  decide (d.junction = j) && !d.sending && p d.kind

/-- The WAITING entries of a junction whose kind meets a test leave the directive queue (R156). -/
def dropWaiting (j : JunctionId) (p : DirectiveKind → Bool) (s : State) : State :=
  { s with directives := s.directives.filter fun d => !waitingEntry j p d }

/-- An unsent directive of a junction is withdrawn: the WAITING entry leaves the queue and the outstanding directive
becomes absent. A directive that is SENDING or sent stays outstanding (R121, R134, R156). -/
def withdraw (j : JunctionId) (p : DirectiveKind → Bool) (s : State) : State :=
  if s.directives.any (waitingEntry j p) then
    onJunction j (fun c => { c with outstanding := none, acceptDeadline := none }) (dropWaiting j p s)
  else s

/-- An EXTEND, ADVANCE or TRIM entry of a junction is SENDING (R106, R130). -/
def sendingDirective (s : State) (j : JunctionId) : Bool :=
  s.directives.any fun d => decide (d.junction = j) && d.sending && !isRelease d.kind

/-- The conditions an offer and a trim share: no grant, no outstanding directive, and no EXTEND, ADVANCE or TRIM
entry of the junction SENDING (R106, R130). -/
def canDirect (s : State) (j : JunctionId) : Bool :=
  (junctionAt s j).grant.isNone && (junctionAt s j).outstanding.isNone && !sendingDirective s j

end Sys2Proof.Machine
end

