-- ==== Sys2Proof/Machine/Orders.lean ====
section
/-! DEFINITION. The candidate order of a junction and the issue check: R85 to R90 and R106 to R108. -/

namespace Sys2Proof.Machine

/-! ### The candidate order (R85 to R89) -/

/-- One occupied slot stands before another in a candidate order: the higher score, then the earlier check-in time,
then the lower slot (R85). -/
def ranksBefore (s : State) (x y : SlotId) : Bool :=
  match recordAt s x, recordAt s y with
  | some a, some b =>
    if a.score ≠ b.score then decide (b.score < a.score)
    else if a.checkInTime ≠ b.checkInTime then decide (timeDiff a.checkInTime b.checkInTime < 0)
    else decide (x < y)
  | _, _ => false

/-- A slot placed in an order before the first entry it ranks before (R86). -/
def insertSorted (s : State) (x : SlotId) : List SlotId → List SlotId
  | [] => [x]
  | y :: l => if ranksBefore s x y then x :: y :: l else y :: insertSorted s x l

/-- A junction's candidate order changed, and its change count moved by one (R89). -/
def onOrder (j : JunctionId) (f : List SlotId → List SlotId) (s : State) : State :=
  onJunction j (fun c => { c with candidates := f c.candidates, changeCount := c.changeCount + 1 }) s

/-- A record enters the candidate order at its sorted place (R86). -/
def insertCandidate (j : JunctionId) (i : SlotId) (s : State) : State := onOrder j (insertSorted s i) s

/-- A record leaves the candidate order (R87). -/
def removeCandidate (j : JunctionId) (i : SlotId) (s : State) : State := onOrder j (fun l => l.erase i) s

/-- A candidate whose stored score has changed is taken out and placed again: one move (R88, log 14). -/
def moveCandidate (j : JunctionId) (i : SlotId) (s : State) : State :=
  onOrder j (fun l => insertSorted s i (l.erase i)) s

/-! ### The issue check (R106 to R108) -/

/-- A candidate's decision is stale: its refresh-wanted flag is set, or the decision is older than the decision
life (R107). -/
def isStale (s : State) (now : Time) (r : Record) : Bool :=
  r.refreshWanted ||
    match r.decision with
    | some d => decide ((s.policy.decisionLife : Int) < timeDiff now d.time)
    | none => true

/-- What an offer to a record carries: the grant step with its phase number, the kind and the amount (R108). -/
structure OfferTerms where
  step : Nat
  phase : Nat
  kind : GrantKind
  amount : Nat
  deriving DecidableEq, Repr

/-- The kind and amount of a decision of EXTEND or ADVANCE (R108). -/
def grantOf : DecisionKind → Option (GrantKind × Nat)
  | .extend n _ => some (.extend, n)
  | .advance n _ => some (.advance, n)
  | _ => none

/-- The terms of an offer to a record, from its stored decision and the active plan's approach map (R108). -/
def offerTerms (c : Junction) (r : Record) : Option OfferTerms := do
  let d ← r.decision
  let (kind, amount) ← grantOf d.kind
  let step ← priorityOf c r.approach
  let entry ← (activeSteps c)[step]?
  pure { step := step, phase := entry.phase, kind := kind, amount := amount }

/-- The walk of the issue check along an order (R107): entries the lockout holds back are passed over as they are,
stale entries are marked and enqueued, and the first other entry qualifies. -/
def walkOrder (now : Time) (j : JunctionId) : List SlotId → State → State × Option SlotId
  | [], s => (s, none)
  | i :: l, s =>
    match recordAt s i with
    | none => walkOrder now j l s
    | some r =>
      if 0 < (junctionAt s j).lockout ∧ r.cls ≠ .forced then walkOrder now j l s
      else if isStale s now r then
        walkOrder now j l (enqueue i (onRecord i (fun r => { r with refreshWanted := true }) s))
      else (s, some i)

/-- The directive an offer queues (R108). -/
def offerDirective (o : OfferTerms) : DirectiveKind :=
  match o.kind with
  | .extend => .extend o.phase o.amount
  | .advance => .advance o.phase o.amount

/-- The kind an offer gives the outstanding directive (R108). -/
def outstandingOf : GrantKind → OutstandingKind
  | .extend => .extend
  | .advance => .advance

/-- The offer to the candidate in a slot (R108). -/
def makeOffer (now : Time) (j : JunctionId) (i : SlotId) (o : OfferTerms) (s : State) : State :=
  let tag := (junctionAt s j).tagCounter + 1
  let s := removeCandidate j i s
  let s := onRecord i (fun r => { r with status := .granted tag }) s
  let s := onJunction j (fun c =>
    { c with
      tagCounter := tag
      grant := some
        { accepted := false, slot := i, generation := (slotAt s i).generation, step := o.step, kind := o.kind,
          amount := o.amount, offerTime := now }
      outstanding := some { kind := outstandingOf o.kind, tag := tag }
      acceptDeadline := none }) s
  queueDirective now j (offerDirective o) tag s

/-- The conditions under which the issue check walks the order (R106). -/
def mayOffer (s : State) (j : JunctionId) : Bool :=
  isLive (junctionAt s j) && !(junctionAt s j).suspended && canDirect s j

/-- The issue check of a junction: under R106's conditions it walks the candidate order and offers the grant to the
first entry that qualifies (R106, R107). -/
def issueCheck (now : Time) (j : JunctionId) (s : State) : State :=
  if mayOffer s j then
    let w := walkOrder now j (junctionAt s j).candidates s
    match w.2 with
    | none => w.1
    | some i =>
      match (recordAt w.1 i).bind (offerTerms (junctionAt w.1 j)) with
      | some o => makeOffer now j i o w.1
      | none => w.1
  else s

end Sys2Proof.Machine
end

