-- ==== Sys2Proof/Machine/Grants.lean ====
section
/-! DEFINITION. The ends of a grant, the answers of the controllers, and retirement: R15, R53 to R56, R109 to R123,
R128 and R131 to R133. -/

namespace Sys2Proof.Machine

/-! ### The cycle adjustment (R15) -/

/-- The cycle adjustment changed by an amount, saturating at -1200 and +1200 (R15). -/
def adjustBy (d : Int) (c : Junction) : Junction := { c with adjustment := clamp (-1200) 1200 (c.adjustment + d) }

/-- The used part of an extension whose RELEASE is queued now (R15). -/
def usedExtension (now : Time) (c : Junction) (g : Grant) : Nat :=
  match c.currentStep, c.stepStart with
  | some k, some t =>
    if k = g.step then
      min g.amount (timeDiff now (timeAdd t (((activeSteps c)[k]?.map PlanStep.split).getD 0))).toNat
    else 0
  | _, _ => 0

/-- What a RELEASE of an accepted grant does to the cycle adjustment (R15): the unused part of an extension comes
off, and an advance is given back whole. -/
def releaseChange (now : Time) (c : Junction) (g : Grant) : Int :=
  match g.kind with
  | .extend => -((g.amount - usedExtension now c g : Nat) : Int)
  | .advance => (g.amount : Int)

/-! ### Ends of a grant (R116 to R123) -/

/-- The grant mode becomes IDLE, and the holder and the grant fields become absent (R116, R121). -/
def clearGrant (j : JunctionId) (s : State) : State := onJunction j (fun c => { c with grant := none }) s

/-- Step 1 of R116: a RELEASE carrying the grant tag is queued, and the cycle adjustment changes as R15 states. -/
def releaseGrant (now : Time) (j : JunctionId) (g : Grant) (s : State) : State :=
  match grantTagAt s g.slot with
  | some tag =>
    onJunction j (fun c => adjustBy (releaseChange now c g) c) (queueRelease now j tag s)
  | none => s

/-- A record that rides its junction's grant (R43). -/
def isRider (j : JunctionId) (r : Record) : Bool := decide (r.junction = j) && decide (r.status = .riding)

/-- An end after acceptance, without the issue check of step 7 (R116). `served` is the vehicle of a SERVED
retirement, and `leave` is step 4: what the end does with a holder that is not being retired. -/
def endAccepted (now : Time) (j : JunctionId) (g : Grant) (release : Bool) (served : Option Half)
    (leave : State → State) (s : State) : State :=
  let s := if release then releaseGrant now j g s else s
  let k := s.policy.lockoutCycles
  let s := onJunction j (fun c => { c with lockout := k }) s
  let s :=
    match served with
    | some v =>
      onJunction j (fun c =>
        { c with lastServed := some { vehicle := v, kind := g.kind, amount := g.amount, arrival := now } }) s
    | none => s
  let s := leave s
  let s := enqueueWhere (isRider j) s
  clearGrant j s

/-- An end before acceptance, without the issue check (R121): the grant ends at once, an unsent EXTEND or ADVANCE is
withdrawn, and a sent one stays outstanding. -/
def endOffered (j : JunctionId) (s : State) : State := clearGrant j (withdraw j isGrantKind s)

/-- The reason a handed-back holder takes where its stored decision is neither EXTEND nor ADVANCE (R112). -/
def handBackReason (d : Option Decision) : TrackReason :=
  match d.map Decision.kind with
  | some .far => .far
  | some .noSlack => .noSlack
  | some .notServed => .notServed
  | _ => .covered

/-- A holder handed back leaves GRANTED: it becomes CANDIDATE and is inserted by its stored score where its stored
decision is EXTEND or ADVANCE, and TRACKING otherwise; its refresh-wanted flag is set (R112, R122). -/
def returnHolder (j : JunctionId) (i : SlotId) (s : State) : State :=
  match recordAt s i with
  | none => s
  | some r =>
    if ((r.decision.map Decision.kind).bind grantOf).isSome then
      insertCandidate j i (onRecord i (fun r => { r with status := .candidate, refreshWanted := true }) s)
    else
      onRecord i (fun r => { r with status := .tracking (handBackReason r.decision), refreshWanted := true }) s

/-- The outstanding directive and the accept deadline become absent. -/
def clearOutstanding (j : JunctionId) (s : State) : State :=
  onJunction j (fun c => { c with outstanding := none, acceptDeadline := none }) s

/-- A decline or an offer timeout hands the grant back, without the issue check (R112, R113). An entry of the offer
that is still WAITING leaves the queue (R156). -/
def handBack (j : JunctionId) (g : Grant) (c : Category) (s : State) : State :=
  raise c
    (clearOutstanding j
      (enqueue g.slot (returnHolder j g.slot (clearGrant j (dropWaiting j isGrantKind s)))))

/-! ### Retirement (R53 to R56, R117) -/

/-- The outcome of a retirement (3.10), but for CLEARED, which CORRIDOR_CLEAR alone gives (R55). -/
inductive RetireOutcome where
  | served
  | withdrawn
  | expired
  | retired
  deriving DecidableEq, Repr

/-- The end of the grant whose holder is being retired (R117), without the issue check. -/
def holderRetired (now : Time) (j : JunctionId) (vehicle : Half) (o : RetireOutcome) (s : State) : State :=
  match (junctionAt s j).grant with
  | none => s
  | some g =>
    if g.accepted then endAccepted now j g true (if o = .served then some vehicle else none) id s
    else endOffered j s

/-- A slot is vacated: its record is gone and its generation rises by one, wrapping (R37, R56). -/
def vacate (sl : Slot) : Slot :=
  match sl.record with
  | some _ => { generation := sl.generation + 1, record := none }
  | none => sl

/-- A record is retired (R56): it leaves the candidate order, or its junction ends the grant it holds; its slot leaves
the evaluation queue and is vacated; and the issue check of its junction runs where R106 lists the event. -/
def retire (now : Time) (i : SlotId) (o : RetireOutcome) (s : State) : State :=
  match recordAt s i with
  | none => s
  | some r =>
    match r.status with
    | .candidate =>
      issueCheck now r.junction (onSlot i vacate (dequeue i (removeCandidate r.junction i s)))
    | .granted _ =>
      issueCheck now r.junction (onSlot i vacate (dequeue i (holderRetired now r.junction r.vehicle o s)))
    | _ => onSlot i vacate (dequeue i s)

/-- The record of a key is retired, where a slot holds the key (R50, R51, R52). -/
def retireKey (now : Time) (v : Half) (j : Byte) (o : RetireOutcome) (s : State) : State :=
  match findKey s v j with
  | some i => retire now i o s
  | none => s

/-! ### Answers (R110 to R114, R131, R132) -/

/-- The current tag of a junction: the holder's grant tag while the mode is OFFERED (R104). -/
def currentTag (s : State) (j : JunctionId) : Option Byte :=
  match (junctionAt s j).grant with
  | some g => if g.accepted then none else grantTagAt s g.slot
  | none => none

/-- A record of a junction whose approach the active plan maps to a step (R111). -/
def mappedTo (c : Junction) (j : JunctionId) (step : Nat) (r : Record) : Bool :=
  decide (r.junction = j) && decide (priorityOf c r.approach = some step)

/-- What an accepted grant adds to the cycle adjustment (R15). -/
def acceptChange (g : Grant) : Int :=
  match g.kind with
  | .extend => (g.amount : Int)
  | .advance => -(g.amount : Int)

/-- The records an ACCEPT enqueues: every record mapped to the grant step, and the holder among them (R111), also where
a refresh has moved it to an approach of another step (log 23). -/
def joinsAcceptance (c : Junction) (j : JunctionId) (g : Grant) (i : SlotId) (r : Record) : Bool :=
  decide (i = g.slot) || mappedTo c j g.step r

/-- An ACCEPT with the current tag accepts the grant (R111; log 22). -/
def acceptGrant (now : Time) (j : JunctionId) (g : Grant) (s : State) : State :=
  let s := onJunction j (fun c => adjustBy (acceptChange g) { c with grant := some { g with accepted := true } }) s
  let s := enqueueSlots (joinsAcceptance (junctionAt s j) j g) s
  issueCheck now j (clearOutstanding j s)

/-- How an answer with a tag is matched at a junction (R110). -/
inductive AnswerMatch where
  | trim (amount : Int)
  | current (g : Grant)
  | outstanding
  | other
  deriving DecidableEq, Repr

/-- The first row of R110 that holds. -/
def matchAnswer (s : State) (j : JunctionId) (tag : Byte) : AnswerMatch :=
  match (junctionAt s j).outstanding with
  | none => .other
  | some o =>
    if o.tag = tag then
      match o.kind, (junctionAt s j).grant with
      | .trim n, _ => .trim n
      | _, some g => if currentTag s j = some tag then .current g else .outstanding
      | _, none => .outstanding
    else .other

/-- A late ACCEPT repeats the answer to the grant in progress (R114, third row). -/
def repeatsAccept (s : State) (j : JunctionId) (tag : Byte) : Bool :=
  match (junctionAt s j).grant with
  | some g => g.accepted && decide (grantTagAt s g.slot = some tag)
  | none => false

/-- An ACCEPT from a junction (R110, R111, R114, R131). -/
def acceptAnswer (now : Time) (j : JunctionId) (tag : Byte) (s : State) : State :=
  match matchAnswer s j tag with
  | .trim n => issueCheck now j (clearOutstanding j (onJunction j (adjustBy n) s))
  | .current g => acceptGrant now j g s
  | .outstanding => issueCheck now j (raise .lateAnswer (clearOutstanding j (queueRelease now j tag s)))
  | .other => raise .lateAnswer (if repeatsAccept s j tag then s else queueRelease now j tag s)

/-- A DECLINE from a junction, whatever its reason (R110, R112, R114, R132, R154). -/
def declineAnswer (now : Time) (j : JunctionId) (tag : Byte) (s : State) : State :=
  match matchAnswer s j tag with
  | .trim _ => issueCheck now j (clearOutstanding j s)
  | .current g => issueCheck now j (handBack j g .declined s)
  | .outstanding => issueCheck now j (raise .lateAnswer (clearOutstanding j s))
  | .other => raise .lateAnswer s

/-- The accept deadline of a junction expires: an offer is handed back, any other outstanding directive is given up,
with OFFER_TIMEOUT (R113, R132). -/
def answerTimeout (now : Time) (j : JunctionId) (s : State) : State :=
  match (junctionAt s j).outstanding with
  | none => clearOutstanding j s
  | some o =>
    match matchAnswer s j o.tag with
    | .current g => issueCheck now j (handBack j g .offerTimeout s)
    | _ => issueCheck now j (raise .offerTimeout (clearOutstanding j s))

/-! ### The corridor clear (R55, R123, R168) -/

/-- Junctions in ascending rank, those of equal rank in ascending number. -/
def insertRanked (rank : JunctionId → Nat) (x : JunctionId) : List JunctionId → List JunctionId
  | [] => [x]
  | y :: l => if rank x ≤ rank y then x :: y :: l else y :: insertRanked rank x l

/-- The junctions whose grants are accepted, in the order this clear takes them, which the spec leaves open (log 12). -/
def acceptedJunctions (s : State) : List JunctionId :=
  ((List.finRange 16).filter fun j => decide (modeOf (junctionAt s j) = .extending) ||
    decide (modeOf (junctionAt s j) = .advancing)).foldr (insertRanked (Config.clearRank s.freeCount)) []

/-- The clear ends one accepted grant: steps 1 and 6 of R116 (R123). -/
def clearAccepted (now : Time) (j : JunctionId) (s : State) : State :=
  match (junctionAt s j).grant with
  | some g => clearGrant j (releaseGrant now j g s)
  | none => s

/-- The clear ends one offered grant under R121, without the issue check (R123). -/
def clearOffered (j : JunctionId) (s : State) : State :=
  if modeOf (junctionAt s j) = .offered then endOffered j s else s

/-- A candidate order emptied: the change count moves once for each entry removed (R89). -/
def emptyOrder (c : Junction) : Junction :=
  { c with candidates := [], changeCount := c.changeCount + byteOf c.candidates.length }

/-- CORRIDOR_CLEAR (R168): accepted grants are released and ended, offered ones end before acceptance, every record is
retired as CLEARED without an issue check, and the evaluation queue and the passage table are emptied. -/
def corridorClear (now : Time) (s : State) : State :=
  let s := (acceptedJunctions s).foldl (fun t j => clearAccepted now j t) s
  let s := (List.finRange 16).foldl (fun t j => clearOffered j t) s
  { s with
    junctions := s.junctions.map emptyOrder
    slots := s.slots.map vacate
    evalQueue := []
    passages := []
    freeCount := s.freeCount + 1 }

end Sys2Proof.Machine
end

