-- ==== Sys2Proof/Machine/Evaluator.lean ====
section
/-! DEFINITION. The evaluator's two events: R80 to R84, R93 to R98, R115 and R120. -/

namespace Sys2Proof.Machine

/-! ### Evaluation start (R25, R58, R94) -/

/-- The grant state of a junction as an evaluation reads it (R25). -/
def grantView (c : Junction) : Option GrantView :=
  c.grant.map fun g => { mode := modeOf c, step := g.step, kind := g.kind, amount := g.amount }

/-- What an evaluation reads of a configured segment (R58): FRESH and DEGRADED estimates are used (R60). -/
def segmentView (g : Segment) : SegmentView :=
  { usable := match g.state with
      | .stale => false
      | _ => true
    estimate := g.estimate
    length := g.length }

/-- Every value an evaluation of a record reads at its start (R25, R58, R94). -/
def readsOf (s : State) (r : Record) : Reads :=
  let c := junctionAt s r.junction
  { approach := r.approach
    cls := r.cls
    distance := r.distance
    speed := r.speed
    dwell := r.dwell
    deviation := r.deviation
    occupancy := r.occupancy
    lastMessage := r.lastMessage
    live := isLive c
    plan := c.activePlan
    currentStep := c.currentStep
    stepStart := c.stepStart
    grant := grantView c
    debt := c.debt
    lockout := c.lockout
    segment := ((feedingOf c r.approach).bind (segmentAt s)).map segmentView
    horizon := s.policy.horizon
    guardTime := s.policy.guardTime
    minGrant := s.policy.minGrant
    partials := s.policy.partials
    debtLimit := s.policy.debtLimit
    early := s.policy.early
    threshold := s.policy.threshold }

/-- An evaluation starts: the head slot leaves the queue, and the evaluator holds it with its generation, t_e = now and the
values read (R93, R94). That no time passes between the event that made the start possible and the start is a bound of
`Safety.Timely`, and not of the step (R93, log 4). -/
def startEvaluation (now : Time) (s : State) : State :=
  match s.flight, s.evalQueue with
  | none, i :: rest =>
    match recordAt s i with
    | some r =>
      { s with
        evalQueue := rest
        flight := some { slot := i, generation := (slotAt s i).generation, te := now, reads := readsOf s r } }
    | none => { s with evalQueue := rest }
  | _, _ => s

/-! ### The state at completion (R80 to R83) -/

/-- A junction has an accepted grant on a step (R82). -/
def grantsStep (c : Junction) (phi : Option Nat) : Bool :=
  c.grant.any fun g => g.accepted && decide (some g.step = phi)

/-- The evaluation read an accepted grant on its record's priority step (R82). -/
def readGrantOn (r : Reads) : Bool :=
  r.grant.any fun g =>
    (decide (g.mode = .extending) || decide (g.mode = .advancing)) && decide (some g.step = readPriority r)

/-- A record has the deviation of an early bus (R80 row 8, R83). -/
def isEarly (r : Reads) : Bool := decide (r.deviation.getD 0 < -(r.early : Int))

/-- The state of a record whose outcome is EXTEND or ADVANCE: rows 8 to 11 of R80, with the class at completion and the
values read at start (R83). -/
def testedState (cls : PriorityClass) (r : Reads) (score : Nat) : RecordState :=
  if cls = .forced then .candidate
  else if isEarly r then .tracking .early
  else if 0 < r.lockout then .tracking .lockout
  else if score < r.threshold then .tracking .lowScore
  else .candidate

/-- The state of a completing record that is not GRANTED: the first row of R80 that matches, from the junction context
at completion `c`, the class at completion and the evaluation's result. -/
def completedState (c : Junction) (cls : PriorityClass) (r : Reads) (e : EvalResult) : RecordState :=
  if e.outcome = .indefinite then .held .indefinite
  else if e.outcome = .dark ∨ isLive c = false then .held .junctionDark
  else
    match e.outcome with
    | .beyond => .tracking .beyond
    | .far => .tracking .far
    | .notServed => .tracking .notServed
    | .none => if grantsStep c (readPriority r) then .riding else .tracking .covered
    | .noSlack => .tracking .noSlack
    | .extend _ => testedState cls r e.score
    | .advance _ => testedState cls r e.score
    | .indefinite => .held .indefinite
    | .dark => .held .junctionDark

/-- The record is placed in the queue again: its NONE rested on a grant that has since ended (R82). -/
def restsOnEndedGrant (c : Junction) (r : Reads) (e : EvalResult) : Bool :=
  decide (e.outcome = .none) && isLive c && readGrantOn r && !grantsStep c (readPriority r)

/-! ### Completion (R96 to R98, R115, R120) -/

/-- The score a completion stores: 1023 for a record of class 3 at completion (R78, R98). -/
def completedScore (cls : PriorityClass) (e : EvalResult) : Nat := if cls = .forced then 1023 else e.score

/-- The stored decision after a completion (R75). -/
def completedDecision (old : Option Decision) : DecisionUpdate → Option Decision
  | .clear => none
  | .keep => old
  | .store d => some d

/-- The record with the results of an evaluation stored (R98). -/
def stored (e : EvalResult) (r : Record) : Record :=
  { r with
    forecast := some e.forecast
    decision := completedDecision r.decision e.decision
    score := completedScore r.cls e
    refreshWanted := false }

/-- The candidate order follows a change of state at completion (R84). `before` is the record as the completion found
it, and `score` its new stored score. -/
def followOrder (i : SlotId) (before : Record) (after : RecordState) (score : Nat) (s : State) : State :=
  match decide (before.status = .candidate), decide (after = .candidate) with
  | true, true => if before.score = score then s else moveCandidate before.junction i s
  | true, false => removeCandidate before.junction i s
  | false, true => insertCandidate before.junction i s
  | false, false => s

/-- A completion sets the state of a record under R80, and the candidate order follows (R80, R82, R84). -/
def settleState (i : SlotId) (r : Record) (f : Reads) (e : EvalResult) (s : State) : State :=
  let c := junctionAt s r.junction
  let st := completedState c r.cls f e
  let s := followOrder i r st (completedScore r.cls e) (onRecord i (fun r => { r with status := st }) s)
  if restsOnEndedGrant c f e then enqueue i s else s

/-- The grant is withdrawn by the holder rule: an evaluation that read the accepted grant has an outcome other than
NONE (R115). -/
def withdraws (c : Junction) (f : Reads) (e : EvalResult) : Bool :=
  c.grant.any (fun g => g.accepted) &&
    f.grant.any (fun g => decide (g.mode = .extending) || decide (g.mode = .advancing)) &&
    decide (e.outcome ≠ .none)

/-- A completion that stores its results (R98): the results are stored, and the holder rule judges a GRANTED record
(R115, R120), R80 any other. -/
def storeResult (now : Time) (i : SlotId) (r : Record) (f : Reads) (e : EvalResult) (s : State) : State :=
  let j := r.junction
  let t := onRecord i (stored e) s
  match r.status with
  | .granted _ =>
    match (junctionAt s j).grant with
    | some g =>
      if withdraws (junctionAt s j) f e then
        issueCheck now j (endAccepted now j g true none (fun t => enqueue i (settleState i r f e t)) t)
      else t
    | none => t
  | _ =>
    let t := settleState i r f e t
    if completedState (junctionAt s j) r.cls f e = .candidate then issueCheck now j t else t

/-- The completion of the evaluation in flight: discarded where the slot has lost the record that was read (R96) or the
record was changed in flight (R97), and stored otherwise (R98). -/
def completeEvaluation (now : Time) (s : State) : State :=
  match s.flight with
  | none => s
  | some f =>
    let t := { s with flight := none }
    match recordAt s f.slot with
    | none => t
    | some r =>
      if (slotAt s f.slot).generation ≠ f.generation then t
      else if r.changedInFlight then
        enqueue f.slot (onRecord f.slot (fun r => { r with changedInFlight := false }) t)
      else storeResult now f.slot r f.reads (evaluate f.reads f.te) t

end Sys2Proof.Machine
end

