-- ==== Sys2Proof/Machine/Junctions.lean ====
section
/-! DEFINITION. Junction clocks and sync states, grant progress, debt and trims: R6 to R19, R119, R122 and R126 to
R130. -/

namespace Sys2Proof.Machine

/-- A record belongs to a junction. -/
def ofJunction (j : JunctionId) (r : Record) : Bool := decide (r.junction = j)

/-- A record is CANDIDATE, GRANTED or RIDING: the states going DARK ends (R19). -/
def seeksGrant (r : Record) : Bool :=
  match r.status with
  | .candidate => true
  | .granted _ => true
  | .riding => true
  | _ => false

/-- The cycle limit a cycle start sets: the start time + C + Dmax + sync tolerance (R16). -/
def cycleLimit (p : Policy) (cycle : Nat) (start : Time) : Time :=
  timeAdd start (cycle + p.debtLimit + p.syncTolerance)

/-- The cycle length C of the active plan. -/
def cycleOf (c : Junction) : Nat := (c.activePlan.map Plan.cycle).getD 0

/-- The cycle limit deadline, present exactly while LIVE (R4). -/
def limitOf (c : Junction) : Option Time :=
  match c.sync with
  | .live t => some t
  | .dark _ => none

/-! ### Going dark (R19, R122) -/

/-- What going DARK does to the junction context: the reason, the frozen position, and no grant, outstanding
directive or candidate left (R6, R19, R122). -/
def darkened (now : Time) (reason : DarkReason) (c : Junction) : Junction :=
  { emptyOrder c with
    sync := .dark reason
    frozenPosition := positionAt now c
    grant := none
    outstanding := none
    acceptDeadline := none }

/-- A LIVE junction goes DARK (R19): JUNCTION_DARK is raised, its grant ends without a RELEASE, its WAITING
directives but a RELEASE are dropped, and its CANDIDATE, GRANTED and RIDING records are held. -/
def goDark (now : Time) (j : JunctionId) (reason : DarkReason) (s : State) : State :=
  onRecordsWhere (fun r => ofJunction j r && seeksGrant r) (fun r => { r with status := .held .junctionDark })
    (dropWaiting j (fun k => !isRelease k)
      (raise .junctionDark (onJunction j (darkened now reason) s)))

/-- A DARK junction takes a new reason, with no further effect (R19). -/
def setReason (j : JunctionId) (reason : DarkReason) (s : State) : State :=
  onJunction j (fun c => { c with sync := .dark reason }) s

/-! ### Liveness and the local mode (R7 to R9) -/

/-- The reason a DARK(LINK_LOST) junction takes when its link is regained (R7). -/
def regained (c : Junction) : Junction :=
  if c.liveness = none ∧ c.sync = .dark .linkLost then
    { c with sync := .dark (if c.activePlan.isSome then .localMode else .noPlan) }
  else c

/-- A valid frame renews a junction's liveness, and regains a lost link (R7). -/
def renewLiveness (j : JunctionId) (s : State) : State :=
  onJunction j (fun c => { regained c with liveness := some (timeAdd s.time s.policy.linkTimeout) }) s

/-- The loss of a junction's link (R8). -/
def loseLink (now : Time) (j : JunctionId) (s : State) : State :=
  let t := onJunction j (fun c => { c with liveness := none, localMode := none }) s
  if isLive (junctionAt s j) then goDark now j .linkLost t else setReason j .linkLost t

/-- The local mode of a STATUS mode code (R153). -/
def localModeOf (b : Byte) : Option LocalMode :=
  if b = 0#8 then some .coord
  else if b = 1#8 then some .free
  else if b = 2#8 then some .flash
  else if b = 3#8 then some .manual
  else none

/-- The dark reason after a STATUS report (R9's table). -/
def reasonAfterStatus (m : LocalMode) (r : DarkReason) : DarkReason :=
  match r with
  | .localMode => if m = .coord then .awaitingCycle else .localMode
  | .awaitingCycle => if m = .coord then .awaitingCycle else .localMode
  | .planMismatch => if m = .coord then .planMismatch else .localMode
  | .noCycle => if m = .coord then .noCycle else .localMode
  | .noPlan => .noPlan
  | .linkLost => .linkLost

/-- A STATUS report of a mode (R9). -/
def reportMode (now : Time) (j : JunctionId) (m : LocalMode) (s : State) : State :=
  let t := onJunction j (fun c => { c with localMode := some m }) s
  match (junctionAt s j).sync with
  | .live _ => if m = .coord then t else goDark now j .localMode t
  | .dark r => setReason j (reasonAfterStatus m r) t

/-! ### Entering LIVE and plan adoption (R11, R12, R122) -/

/-- The junction context on entering LIVE at a cycle start (R12). -/
def liveContext (p : Policy) (now : Time) (count : Byte) (c : Junction) : Junction :=
  { c with
    sync := .live (cycleLimit p (cycleOf c) now)
    lastCycleStart := some now
    cycleCount := count
    currentStep := some 0
    stepStart := some now
    adjustment := 0
    debt := 0
    lockout := 0 }

/-- The junction enters LIVE: its clock, debt and lockout take R12's values, its records are enqueued, and its issue
check runs (R12). -/
def enterLive (now : Time) (j : JunctionId) (count : Byte) (s : State) : State :=
  issueCheck now j (enqueueWhere (ofJunction j) (onJunction j (liveContext s.policy now count) s))

/-- A CYCLE_START of the active plan at a junction that may enter LIVE: it does if the local mode is COORD, and is
DARK(LOCAL_MODE) otherwise (R11, R12). -/
def tryEnterLive (now : Time) (j : JunctionId) (count : Byte) (s : State) : State :=
  if (junctionAt s j).localMode = some .coord then enterLive now j count s else setReason j .localMode s

/-- The evaluation in flight, where it is of a record of a junction, has that record's changed-in-flight flag set
(R11). -/
def markFlight (j : JunctionId) (s : State) : State :=
  match s.flight with
  | some f =>
    if inFlight s f.slot then
      onRecord f.slot (fun r => if ofJunction j r then { r with changedInFlight := true } else r) s
    else s
  | none => s

/-- The end of any grant at an adoption (R122): without a RELEASE, the holder handed back. -/
def endForAdoption (j : JunctionId) (s : State) : State :=
  match (junctionAt s j).grant with
  | some g => returnHolder j g.slot (clearGrant j s)
  | none => s

/-- Every record in the candidate order has its refresh-wanted flag set (R122). -/
def markCandidates (j : JunctionId) (s : State) : State :=
  (junctionAt s j).candidates.foldl (fun t i => onRecord i (fun r => { r with refreshWanted := true }) t) s

/-- A CYCLE_START adopts the staged plan (R11, R122, R134). -/
def adoptPlan (now : Time) (j : JunctionId) (count : Byte) (p : Plan) (s : State) : State :=
  let t := markFlight j s
  let t :=
    if isLive (junctionAt s j) then
      markCandidates j (endForAdoption j (withdraw j (fun k => !isRelease k) t))
    else t
  tryEnterLive now j count (onJunction j (fun c => { c with activePlan := some p, stagedPlan := none }) t)

/-! ### The next cycle (R13, R14, R126 to R130) -/

/-- -sign(debt) * min(|debt|, R): the amount of a TRIM (R130). -/
def trimAmount (p : Policy) (debt : Int) : Int := -(debt.sign * (min debt.natAbs p.recoveryRate : Nat))

/-- Step 5 of R13: a TRIM is queued where the debt is not 0 and nothing is in the way (R130). -/
def queueTrim (now : Time) (j : JunctionId) (s : State) : State :=
  let c := junctionAt s j
  if c.debt ≠ 0 ∧ canDirect s j = true then
    let tag := c.tagCounter + 1
    let amount := trimAmount s.policy c.debt
    queueDirective now j (.trim amount) tag
      (onJunction j (fun c =>
        { c with tagCounter := tag, outstanding := some { kind := .trim amount, tag := tag }, acceptDeadline := none }) s)
  else s

/-- The measured length of the cycle a cycle start ends (R13). -/
def measuredLength (now : Time) (c : Junction) : Int := timeDiff now (c.lastCycleStart.getD now)

/-- The debt before it is held to its range: the old debt and what the cycle ran long (R126). -/
def debtSum (now : Time) (c : Junction) : Int := c.debt + (measuredLength now c - cycleOf c)

/-- DEBT_LIMIT is due: the sum was saturated, or the debt is beyond the limit (R127). -/
def beyondDebtLimit (p : Policy) (now : Time) (c : Junction) : Bool :=
  decide (clamp (-999) 999 (debtSum now c) ≠ debtSum now c) ||
    decide (p.debtLimit < (clamp (-999) 999 (debtSum now c)).natAbs)

/-- The sync check fails: the timing check or the count check (R14). -/
def slips (p : Policy) (now : Time) (count : Byte) (c : Junction) : Bool :=
  decide (p.syncTolerance < (measuredLength now c - cycleOf c - c.adjustment).natAbs) ||
    decide (count ≠ c.cycleCount + 1)

/-- The junction context after steps 2 and 4 of R13: the debt and the lockout (R126, R129), then the clock fields. -/
def nextCycleContext (p : Policy) (now : Time) (count : Byte) (c : Junction) : Junction :=
  { c with
    debt := clamp (-999) 999 (debtSum now c)
    lockout := c.lockout - 1
    sync := .live (cycleLimit p (cycleOf c) now)
    lastCycleStart := some now
    cycleCount := count
    currentStep := some 0
    stepStart := some now
    adjustment := 0 }

/-- A CYCLE_START of the active plan at a LIVE junction ends one cycle and opens the next (R13). The issue check runs
where the lockout was counted down (R129). -/
def nextCycle (now : Time) (j : JunctionId) (count : Byte) (s : State) : State :=
  let c := junctionAt s j
  let t := onJunction j (nextCycleContext s.policy now count) s
  let t := raiseIf (beyondDebtLimit s.policy now c) .debtLimit t
  let t := raiseIf (slips s.policy now count c) .syncSlip t
  let t := enqueueWhere (ofJunction j) (queueTrim now j t)
  if 0 < c.lockout then issueCheck now j t else t

/-- The id of a plan slot, if the slot holds a plan. -/
def planIdOf (p : Option Plan) : Option Byte := p.map Plan.planId

/-- A CYCLE_START whose id matches neither plan slot (R10). -/
def mismatch (now : Time) (j : JunctionId) (s : State) : State :=
  if (junctionAt s j).activePlan.isNone then s
  else if isLive (junctionAt s j) then goDark now j .planMismatch s
  else setReason j .planMismatch s

/-- A CYCLE_START report, matched by its plan id against the two plan slots (R10). -/
def cycleStart (now : Time) (j : JunctionId) (count planId : Byte) (s : State) : State :=
  let c := junctionAt s j
  match c.stagedPlan with
  | some p =>
    if p.planId = planId then adoptPlan now j count p s
    else if planIdOf c.activePlan = some planId then
      if isLive c then nextCycle now j count s else tryEnterLive now j count s
    else mismatch now j s
  | none =>
    if planIdOf c.activePlan = some planId then
      if isLive c then nextCycle now j count s else tryEnterLive now j count s
    else mismatch now j s

/-! ### Phase reports and grant progress (R17, R18, R119) -/

/-- The step of the active plan that serves a phase (R17, R18). -/
def stepOfPhase (c : Junction) (phase : Byte) : Option Nat :=
  (activeSteps c).findIdx? fun st => decide (st.phase = phase.toNat)

/-- The step after a step in cycle order (R17, R18, R21). -/
def stepAfter (c : Junction) (k : Nat) : Nat := if k + 1 < (activeSteps c).length then k + 1 else 0

/-- The running step and its start time set from a report (R17, R18). -/
def setStep (now : Time) (j : JunctionId) (k : Nat) (s : State) : State :=
  onJunction j (fun c => { c with currentStep := some k, stepStart := some now }) s

/-- The holder of a grant that a phase report ends becomes TRACKING(COVERED), without its tag, and is enqueued
(R116, R119). -/
def coverHolder (i : SlotId) (s : State) : State :=
  enqueue i (onRecord i (fun r => { r with status := .tracking .covered }) s)

/-- A phase report names the phase of the grant step of an accepted grant of this kind (R119). -/
def namesGrant (c : Junction) (kind : GrantKind) (phase : Byte) : Option Grant :=
  c.grant.filter fun g =>
    g.accepted && decide (g.kind = kind) &&
      decide (((activeSteps c)[g.step]?).map PlanStep.phase = some phase.toNat)

/-- A phase report drives grant progress: a PHASE_END of the granted phase ends an extension, a PHASE_START of it an
advance (R119). -/
def progress (now : Time) (j : JunctionId) (ends : GrantKind) (phase : Byte) (s : State) : State :=
  match namesGrant (junctionAt s j) ends phase with
  | some g => issueCheck now j (endAccepted now j g false none (coverHolder g.slot) s)
  | none => s

/-- A PHASE_START report (R17, R119). -/
def phaseStart (now : Time) (j : JunctionId) (phase : Byte) (s : State) : State :=
  let c := junctionAt s j
  if isLive c then
    match stepOfPhase c phase with
    | none => raise .syncSlip s
    | some k =>
      let expected := decide (c.currentStep = some k) || decide (c.currentStep.map (stepAfter c) = some k)
      progress now j .advance phase (raiseIf (!expected) .syncSlip (setStep now j k s))
  else s

/-- A PHASE_END report (R18, R119). -/
def phaseEnd (now : Time) (j : JunctionId) (phase : Byte) (s : State) : State :=
  let c := junctionAt s j
  if isLive c then
    match stepOfPhase c phase with
    | none => raise .syncSlip s
    | some k =>
      progress now j .extend phase
        (raiseIf (decide (c.currentStep ≠ some k)) .syncSlip (setStep now j (stepAfter c k) s))
  else s

end Sys2Proof.Machine
end

