-- ==== Sys2Proof/Machine/Requests.lean ====
section
/-! DEFINITION. The request table's messages: check-in, refresh, update and the supervisor's force: R42 and R44 to
R49. -/

namespace Sys2Proof.Machine

/-! ### Clamping (R45) -/

/-- A received speed as it is stored: the unknown code as unknown, a speed above 300 as 300 (R45). -/
def storedSpeed (v : Half) : Option Nat := if v = 0xFFFF#16 then none else some (min v.toNat 300)

/-- A received distance as it is stored (R45). -/
def storedDistance (d : Half) : Nat := min d.toNat 4000

/-- A received dwell as it is stored (R45). -/
def storedDwell (w : Half) : Nat := min w.toNat 1200

/-- A received deviation as it is stored: signed, held to -600 to +600 (R45, R149). -/
def storedDeviation (e : Half) : Int := clamp (-600) 600 e.toInt

/-- A received occupancy as it is stored (R45). -/
def storedOccupancy (o : Byte) : Nat := min o.toNat 150

/-- A received class as it is stored: 3 or more is taken as 2 (R45). -/
def storedClass (c : Byte) : PriorityClass :=
  if c = 0#8 then .schedule else if c = 1#8 then .late else .headway

/-! ### Check-in (R44, R46, R47) -/

/-- What a CHECK_IN that passes R44's checks names: its junction and its approach. -/
structure CheckedKey where
  junction : JunctionId
  approach : Fin 4
  deriving DecidableEq, Repr

/-- The checks of R44, in its order: none where one fails. -/
def checkCheckIn (s : State) (m : CheckInMsg) : Option CheckedKey :=
  if realVehicle m.vehicle then
    match junctionOf m.junction with
    | none => none
    | some j =>
      if (junctionAt s j).activePlan.isSome then
        if h : m.approach.toNat < 4 then
          if (priorityOf (junctionAt s j) ⟨m.approach.toNat, h⟩).isSome then
            some { junction := j, approach := ⟨m.approach.toNat, h⟩ }
          else none
        else none
      else none
  else none

/-- The record a CHECK_IN creates (R46). -/
def newRecord (s : State) (m : CheckInMsg) (k : CheckedKey) : Record where
  vehicle := m.vehicle
  junction := k.junction
  approach := k.approach
  cls := storedClass m.cls
  sequence := m.sequence
  distance := storedDistance m.distance
  speed := storedSpeed m.speed
  dwell := m.dwell.map storedDwell
  deviation := m.deviation.map storedDeviation
  occupancy := m.occupancy.map storedOccupancy
  forecast := none
  decision := none
  score := 0
  checkInTime := s.time
  lastMessage := s.time
  expiry := timeAdd s.time s.policy.recordLifetime
  status := .pending
  changedInFlight := false
  refreshWanted := false

/-- The lowest-numbered vacant slot (R37). -/
def vacantSlot (s : State) : Option SlotId := (List.finRange 96).find? fun i => (recordAt s i).isNone

/-- A CHECK_IN creates a record in the lowest vacant slot and enqueues it, or raises TABLE_FULL (R46). -/
def createRecord (m : CheckInMsg) (k : CheckedKey) (s : State) : State :=
  match vacantSlot s with
  | some i => enqueue i (onSlot i (fun sl => { sl with record := some (newRecord s m k) }) s)
  | none => raise .tableFull s

/-- The score a refresh leaves: 0 at once where it takes away class 3, the stored score otherwise (R42). -/
def refreshedScore (r : Record) : Nat := if r.cls = .forced then 0 else r.score

/-- The record after a refresh (R47). -/
def refreshed (s : State) (m : CheckInMsg) (k : CheckedKey) (flying : Bool) (r : Record) : Record :=
  { r with
    approach := k.approach
    cls := storedClass m.cls
    sequence := m.sequence
    distance := storedDistance m.distance
    speed := storedSpeed m.speed
    dwell := m.dwell.map storedDwell
    deviation := m.deviation.map storedDeviation
    occupancy := m.occupancy.map storedOccupancy
    score := refreshedScore r
    lastMessage := s.time
    expiry := timeAdd s.time s.policy.recordLifetime
    changedInFlight := r.changedInFlight || flying
    refreshWanted := r.refreshWanted || decide (r.status = .candidate) }

/-- A CANDIDATE whose score has changed between completions is moved, and the issue check of its junction is due
(R42, R88). -/
def isMoved (r : Record) (score : Nat) : Bool := decide (r.status = .candidate) && decide (r.score ≠ score)

/-- A CHECK_IN refreshes the record of its key (R47). -/
def refreshRecord (m : CheckInMsg) (k : CheckedKey) (i : SlotId) (r : Record) (s : State) : State :=
  let t := onRecord i (refreshed s m k (inFlight s i)) s
  if isMoved r (refreshedScore r) then
    issueCheck s.time r.junction (enqueue i (moveCandidate r.junction i t))
  else enqueue i t

/-- A CHECK_IN at the request table (R44, R46, R47). -/
def checkIn (m : CheckInMsg) (s : State) : State :=
  match checkCheckIn s m with
  | none => raise .badRequest s
  | some k =>
    match findKey s m.vehicle m.junction with
    | none => createRecord m k s
    | some i =>
      match recordAt s i with
      | some r => refreshRecord m k i r s
      | none => s

/-! ### Update (R48, R49) -/

/-- A sequence number is newer than the stored one: the difference modulo 256 is 1 to 127 (R48). -/
def isNewer (q stored : Byte) : Bool := decide (1 ≤ (q - stored).toNat ∧ (q - stored).toNat ≤ 127)

/-- The record after an accepted UPDATE: the fields marked present replace the stored ones (R49). -/
def updated (s : State) (m : UpdateMsg) (flying : Bool) (r : Record) : Record :=
  { r with
    sequence := m.sequence
    distance := (m.distance.map storedDistance).getD r.distance
    speed := (m.speed.map storedSpeed).getD r.speed
    dwell := (m.dwell.map storedDwell) <|> r.dwell
    deviation := (m.deviation.map storedDeviation) <|> r.deviation
    occupancy := (m.occupancy.map storedOccupancy) <|> r.occupancy
    lastMessage := s.time
    expiry := timeAdd s.time s.policy.recordLifetime
    changedInFlight := r.changedInFlight || flying }

/-- An UPDATE at the request table (R48, R49). -/
def update (m : UpdateMsg) (s : State) : State :=
  match findKey s m.vehicle m.junction with
  | none => raise .badRequest s
  | some i =>
    match recordAt s i with
    | none => s
    | some r =>
      if isNewer m.sequence r.sequence then enqueue i (onRecord i (updated s m (inFlight s i)) s) else s

/-! ### Force (R42) -/

/-- A RECORD_FORCE of the record in a slot: class 3 and score 1023, a candidate moved, the slot enqueued, and the issue
check where it was a move (R42, R88, R163). -/
def forceRecord (now : Time) (i : SlotId) (r : Record) (s : State) : State :=
  let t := onRecord i (fun r => { r with cls := .forced, score := 1023 }) s
  if isMoved r 1023 then issueCheck now r.junction (enqueue i (moveCandidate r.junction i t)) else enqueue i t

end Sys2Proof.Machine
end

