-- ==== Sys2Proof/Machine/Segments.lean ====
section
/-! DEFINITION. The segment table and the passage table: R137 to R147. -/

namespace Sys2Proof.Machine

/-- A record is tied to a segment (R147): its junction's active plan maps its approach to the segment, and its stored
forecast has source SEGMENT or its state is HELD(INDEFINITE). -/
def tiedTo (s : State) (k : SegmentId) (r : Record) : Bool :=
  decide (feedingOf (junctionAt s r.junction) r.approach = some k) &&
    (decide (r.forecast.bind sourceOf = some Source.segment) ||
      decide (r.status = .held .indefinite))

/-- The records tied to a segment are enqueued, as one group (R147). -/
def enqueueTied (k : SegmentId) (s : State) : State := enqueueWhere (tiedTo s k) s

/-- The stale deadline of a segment, where its state has one (R137). -/
def staleDeadline (g : Segment) : Option Time :=
  match g.state with
  | .fresh t => some t
  | .degraded t => some t
  | .stale => none

/-- A segment is FRESH (R138). -/
def isFresh (g : Segment) : Bool :=
  match g.state with
  | .fresh _ => true
  | _ => false

/-- The estimate a quarter of the way towards a captured sample, rounded toward zero and clamped (R144). -/
def smoothed (g : Segment) (sample : Int) : Nat :=
  (clamp g.tmin g.tcap (g.estimate + Int.tdiv (sample - g.estimate) 4)).toNat

/-- A captured sample at a segment (R144). -/
def captured (p : Policy) (now : Time) (sample : Int) (g : Segment) : Segment :=
  { g with
    estimate := smoothed g sample
    state := .fresh (timeAdd now p.staleTime)
    streak := 0
    lastSample := now }

/-- A captured sample is taken into a segment; the tied records are enqueued if the state or the estimate changed
(R144). -/
def takeSample (now : Time) (k : SegmentId) (sample : Int) (g : Segment) (s : State) : State :=
  let t := setSegment k (some (captured s.policy now sample g)) s
  if isFresh g ∧ smoothed g sample = g.estimate then t else enqueueTied k t

/-- An overrun at a segment, by its state (R145). -/
def takeOverrun (k : SegmentId) (g : Segment) (s : State) : State :=
  match g.state with
  | .fresh t =>
    if g.streak < 2 then setSegment k (some { g with streak := g.streak + 1 }) s
    else
      enqueueTied k
        (raise .segmentDegraded
          (setSegment k (some { g with streak := 3, estimate := g.tcap, state := .degraded t }) s))
  | .degraded _ => s
  | .stale => setSegment k (some { g with streak := min 3 (g.streak + 1) }) s

/-- The configured segment from one junction to another, if there is one (R142). -/
def segmentBetween (s : State) (i j : JunctionId) : Option SegmentId :=
  (List.finRange 32).find? fun k =>
    (segmentAt s k).any fun g => decide (g.source = i) && decide (g.target = j)

/-- A sample is handed to the segment that joins two junctions, if one is configured (R142, R144, R145). -/
def handSample (now : Time) (i j : JunctionId) (sample : Int) (s : State) : State :=
  match segmentBetween s i j with
  | none => s
  | some k =>
    match segmentAt s k with
    | none => s
    | some g => if sample ≤ g.tcap then takeSample now k sample g s else takeOverrun k g s

/-- The entry of a vehicle in the passage table, if it has one (R141). -/
def entryOf (v : Half) (l : List PassageEntry) : Option PassageEntry := l.find? fun e => decide (e.vehicle = v)

/-- The passage table without a vehicle's entry; the entries behind keep their order (R143). -/
def dropEntry (v : Half) (l : List PassageEntry) : List PassageEntry := l.filter fun e => decide (e.vehicle ≠ v)

/-- A passage written (R142): the vehicle's entry takes the youngest place; where it had none and 48 entries are held,
the oldest is removed. -/
def writeEntry (e : PassageEntry) (l : List PassageEntry) : List PassageEntry :=
  if (entryOf e.vehicle l).isSome then dropEntry e.vehicle l ++ [e]
  else if l.length < 48 then l ++ [e]
  else l.drop 1 ++ [e]

/-- A PASSAGE at the passage table: pairing, then writing (R142). -/
def passageAt (now : Time) (v : Half) (j : JunctionId) (s : State) : State :=
  if realVehicle v then
    let t :=
      match entryOf v s.passages with
      | some e => if e.junction = j then s else handSample now e.junction j (timeDiff now e.entryTime) s
      | none => s
    { t with
      passages := writeEntry
        { vehicle := v, junction := j, entryTime := now, expiry := timeAdd now s.policy.passageLifetime } t.passages }
  else s

/-- The stale deadline of a segment expires (R146). -/
def goStale (k : SegmentId) (g : Segment) (s : State) : State :=
  enqueueTied k (setSegment k (some { g with state := .stale }) s)

end Sys2Proof.Machine
end

