-- ==== Sys2Proof/Machine/Links.lean ====
section
/-! DEFINITION. The two links: frame assemblers, delivery of messages and the transmitter's sent event: R109, R149 to
R159. -/

namespace Sys2Proof.Machine

/-! ### Delivery (R152, R154) -/

/-- A detection link message is handed to the request table (R152). -/
def deliverDetection (m : DetectionMsg) (s : State) : State :=
  match m with
  | .checkIn c => checkIn c s
  | .update u => update u s
  | .checkOut v j => retireKey s.time v j .served s
  | .cancel v j => retireKey s.time v j .withdrawn s

/-- A STATUS report: the mode is handed on, or a mode code above 3 is discarded with FRAME_ERROR (R9, R154). -/
def deliverStatus (j : JunctionId) (mode : Byte) (s : State) : State :=
  match localModeOf mode with
  | some m => reportMode s.time j m s
  | none => raise .frameError s

/-- A PASSAGE report: to the request table, then to the passage table (R52, R142, R154; log 13, log 20). -/
def deliverPassage (j : JunctionId) (v : Half) (s : State) : State :=
  passageAt s.time v j (retireKey s.time v (byteOf j.val) .served s)

/-- The content of a junction link frame goes to its owners (R154). -/
def deliverContent (j : JunctionId) (m : JunctionMsg) (s : State) : State :=
  match m with
  | .status _ mode => deliverStatus j mode s
  | .cycleStart _ count planId => cycleStart s.time j count planId s
  | .phaseStart _ phase => phaseStart s.time j phase s
  | .phaseEnd _ phase => phaseEnd s.time j phase s
  | .passage _ _ v => deliverPassage j v s
  | .accept _ tag => acceptAnswer s.time j tag s
  | .decline _ tag _ => declineAnswer s.time j tag s

/-- A valid junction link frame: one naming a junction above 15 is discarded with FRAME_ERROR; any other renews its
junction's liveness, and then its content is delivered (R7, R154). -/
def deliverJunction (m : JunctionMsg) (s : State) : State :=
  match junctionOf (msgJunction m) with
  | none => raise .frameError s
  | some j => deliverContent j m (renewLiveness j s)

/-! ### The assemblers (R150, R151) -/

/-- The frame assembler of a link. -/
def assemblerOf (s : State) (link : Link) : Assembler :=
  match link with
  | .detection => s.detectionRx
  | .junction => s.junctionRx

/-- The state with a link's frame assembler replaced. -/
def setAssembler (link : Link) (a : Assembler) (s : State) : State :=
  match link with
  | .detection => { s with detectionRx := a }
  | .junction => { s with junctionRx := a }

/-- The gap deadline of an assembler, present while it is not in HUNT (R150). -/
def gapOf : Assembler → Option Time
  | .hunt => none
  | .receiving _ _ gap => some gap

/-- The gap deadline a byte of a frame sets: now + 2 ds (R150). -/
def gapFrom (s : State) : Time := timeAdd s.time 2

/-- A frame in progress is discarded: FRAME_ERROR once, and the assembler returns to HUNT (R151). -/
def discardFrame (link : Link) (s : State) : State := raise .frameError (setAssembler link .hunt s)

/-- The message of a complete frame is handed on (R152, R154). -/
def deliverFrame (link : Link) (kind : Byte) (body : List Byte) (s : State) : State :=
  match link with
  | .detection =>
    match detectionMsg kind body with
    | some m => deliverDetection m s
    | none => s
  | .junction =>
    match junctionMsg kind body with
    | some m => deliverJunction m s
    | none => s

/-- The body length a frame in progress has taken (R150). -/
def takenLength (taken : List Byte) : Nat := (byteAt taken 0).toNat

/-- The second check byte completes a frame: a good check makes it valid, a bad one discards it (R149, R150, R151). -/
def completeFrame (link : Link) (taken : List Byte) (last : Byte) (s : State) : State :=
  let n := takenLength taken
  if [byteAt taken (n + 2), last] = le16 (crc16 (taken.take (n + 2))) then
    deliverFrame link (byteAt taken 1) ((taken.take (n + 2)).drop 2) (setAssembler link .hunt s)
  else discardFrame link s

/-- A byte of a frame in progress, by the assembler's phase (R150's table). -/
def takeByte (link : Link) (phase : RxPhase) (taken : List Byte) (b : Byte) (s : State) : State :=
  match phase with
  | .length => setAssembler link (.receiving .kind [b] (gapFrom s)) s
  | .kind =>
    if bodySize link b = some (takenLength taken) then
      setAssembler link
        (.receiving (if takenLength taken = 0 then .check else .body) (taken ++ [b]) (gapFrom s)) s
    else discardFrame link s
  | .body =>
    setAssembler link
      (.receiving (if taken.length + 1 = takenLength taken + 2 then .check else .body) (taken ++ [b]) (gapFrom s)) s
  | .check =>
    if taken.length = takenLength taken + 2 then setAssembler link (.receiving .check (taken ++ [b]) (gapFrom s)) s
    else completeFrame link taken b s

/-- A byte of a line, with or without a UART error (R150, R151). -/
def receiveByte (link : Link) (b : Byte) (uartError : Bool) (s : State) : State :=
  match assemblerOf s link with
  | .hunt =>
    if b = 0xA5#8 ∧ uartError = false then setAssembler link (.receiving .length [] (gapFrom s)) s else s
  | .receiving phase taken _ => if uartError then discardFrame link s else takeByte link phase taken b s

/-! ### The transmitter's sent event (R109, R158) -/

/-- A junction is told that its directive with a tag has been sent: the accept deadline is set, if the outstanding
directive still carries the tag (R109). -/
def reportSent (now : Time) (j : JunctionId) (tag : Byte) (s : State) : State :=
  let deadline := timeAdd now s.policy.acceptTimeout
  onJunction j (fun c =>
    if c.outstanding.any fun o => decide (o.tag = tag) then { c with acceptDeadline := some deadline } else c) s

/-- The SENDING entry of the directive queue, if there is one (R155). -/
def sendingEntry (s : State) : Option Directive := s.directives.find? Directive.sending

/-- The sent event: the entry leaves the queue, its junction's flag is cleared or its accept deadline set, the
transmitter chooses again, and for an EXTEND, ADVANCE or TRIM the issue check runs (R106, R158). -/
def sentEvent (now : Time) (s : State) : State :=
  match s.transmitter with
  | none => s
  | some _ =>
    let t := { s with directives := s.directives.eraseP Directive.sending, transmitter := none }
    match sendingEntry s with
    | none => transmitNext now t
    | some d =>
      if isRelease d.kind then transmitNext now (onJunction d.junction (fun c => { c with releaseQueued := false }) t)
      else issueCheck now d.junction (transmitNext now (reportSent now d.junction d.tag t))

end Sys2Proof.Machine
end

