-- ==== Sys2Proof/Machine/EvaluatorMeanings.lean ====
section
/-! DEFINITION. The meanings of the evaluator and of the transmitter: R93 to R98 and R158. An event whose condition does
not hold does not occur (log 2). -/

namespace Sys2Proof.Machine

/-- EVALUATION_START (R93, R94). -/
def execEvaluationStart (s : State) : Host.Outcome State Fault Refusal :=
  .next (startEvaluation s.time s)

/-- EVALUATION_COMPLETION (R96 to R98). -/
def execEvaluationCompletion (s : State) : Host.Outcome State Fault Refusal :=
  .next (completeEvaluation s.time s)

/-- SENT_EVENT (R158). -/
def execSentEvent (s : State) : Host.Outcome State Fault Refusal :=
  .next (sentEvent s.time s)

end Sys2Proof.Machine
end

