-- ==== Sys2Proof/Machine/LinkMeanings.lean ====
section
/-! DEFINITION. The meanings of the frames, bytes and faults of the two links: R7 to R18, R44 to R52, R110, R142 and R150 to R154. -/

namespace Sys2Proof.Machine

/-- CHECK_IN: a valid frame has been received; its assembler is back in HUNT, and the message goes to R44 (R150, R152). -/
def execCheckIn (m : CheckInMsg) (s : State) : Host.Outcome State Fault Refusal :=
  .next (deliverDetection (.checkIn m) (setAssembler .detection .hunt s))

/-- UPDATE: a valid frame has been received, and the message goes to R48 (R150, R152). -/
def execUpdate (m : UpdateMsg) (s : State) : Host.Outcome State Fault Refusal :=
  .next (deliverDetection (.update m) (setAssembler .detection .hunt s))

/-- CHECK_OUT: the record of the key is retired SERVED (R50). -/
def execCheckOut (vehicle : Half) (junction : Byte) (s : State) : Host.Outcome State Fault Refusal :=
  .next (deliverDetection (.checkOut vehicle junction) (setAssembler .detection .hunt s))

/-- CANCEL: the record of the key is retired WITHDRAWN (R51). -/
def execCancel (vehicle : Half) (junction : Byte) (s : State) : Host.Outcome State Fault Refusal :=
  .next (deliverDetection (.cancel vehicle junction) (setAssembler .detection .hunt s))

/-- BAD_FRAME: a frame on a link is discarded for its bytes, whichever of R151's causes it is (R151, log 7). -/
def execBadFrame (link : Link) (_cause : BadFrameCause) (s : State) : Host.Outcome State Fault Refusal :=
  .next (discardFrame link s)

/-- FOREIGN_JUNCTION_FRAME: a valid frame naming a junction above 15 is discarded with FRAME_ERROR (R154, log 9). -/
def execForeignJunctionFrame (m : JunctionMsg) (s : State) : Host.Outcome State Fault Refusal :=
  .next (deliverJunction m (setAssembler .junction .hunt s))

/-- STATUS (R9, R154). -/
def execStatus (junction mode : Byte) (s : State) : Host.Outcome State Fault Refusal :=
  .next (deliverJunction (.status junction mode) (setAssembler .junction .hunt s))

/-- CYCLE_START (R10). -/
def execCycleStart (junction count planId : Byte) (s : State) : Host.Outcome State Fault Refusal :=
  .next (deliverJunction (.cycleStart junction count planId) (setAssembler .junction .hunt s))

/-- PHASE_START (R17, R119). -/
def execPhaseStart (junction phase : Byte) (s : State) : Host.Outcome State Fault Refusal :=
  .next (deliverJunction (.phaseStart junction phase) (setAssembler .junction .hunt s))

/-- PHASE_END (R18, R119). -/
def execPhaseEnd (junction phase : Byte) (s : State) : Host.Outcome State Fault Refusal :=
  .next (deliverJunction (.phaseEnd junction phase) (setAssembler .junction .hunt s))

/-- PASSAGE: to the request table and the passage table (R52, R142). -/
def execPassage (junction approach : Byte) (vehicle : Half) (s : State) : Host.Outcome State Fault Refusal :=
  .next (deliverJunction (.passage junction approach vehicle) (setAssembler .junction .hunt s))

/-- ACCEPT (R110). -/
def execAccept (junction tag : Byte) (s : State) : Host.Outcome State Fault Refusal :=
  .next (deliverJunction (.accept junction tag) (setAssembler .junction .hunt s))

/-- DECLINE, whatever its reason (R110, R154). -/
def execDecline (junction tag reason : Byte) (s : State) : Host.Outcome State Fault Refusal :=
  .next (deliverJunction (.decline junction tag reason) (setAssembler .junction .hunt s))

/-- LINK_BYTE_RECEIVED (R150, R151). -/
def execLinkByteReceived (link : Link) (byte : Byte) (uartError : Bool) (s : State) : Host.Outcome State Fault Refusal :=
  .next (receiveByte link byte uartError s)

end Sys2Proof.Machine
end

