-- ==== Sys2Proof/Machine/Port.lean ====
section
/-! DEFINITION. The supervisor port: its commands, the responses they build, the listing, the notice unit's commands
and the transactions: R20 to R24, R54, R124, R139, R140 and R160 to R168. -/

namespace Sys2Proof.Machine

/-! ### Codes (R162) -/

/-- The response codes. -/
def responseByte : ResponseCode → Byte
  | .ok => 0
  | .badField => 1
  | .noRecord => 2
  | .notAllowed => 3
  | .listStale => 4
  | .badJunction => 5

/-- The body of a response: its code and, where it is OK, the result (R162). -/
def responseBody (r : Response) : List Byte := responseByte r.code :: r.result

/-- The frame of a response (R149, R162). -/
def responseFrame (r : Response) : List Byte := frameOf r.kind (responseBody r)

/-- The not-ready frame: length 0, kind 0x7F (R161). -/
def notReadyFrame : List Byte := frameOf 0x7F#8 []

/-- A one-byte code of an optional value: 0xFF where it is absent (R162). -/
def codeOr {α : Type} (f : α → Byte) (x : Option α) : Byte := (x.map f).getD 0xFF#8

/-- A flag as one byte (R162). -/
def flagByte (b : Bool) : Byte := if b then 1 else 0

/-- The codes of the dark reasons. -/
def darkReasonByte : DarkReason → Byte
  | .noPlan => 0
  | .awaitingCycle => 1
  | .linkLost => 2
  | .localMode => 3
  | .planMismatch => 4
  | .noCycle => 5

/-- The codes of the local modes. -/
def localModeByte : LocalMode → Byte
  | .coord => 0
  | .free => 1
  | .flash => 2
  | .manual => 3

/-- The codes of the grant modes. -/
def grantModeByte : GrantMode → Byte
  | .idle => 0
  | .offered => 1
  | .extending => 2
  | .advancing => 3

/-- The codes of the grant kinds. -/
def grantKindByte : GrantKind → Byte
  | .extend => 0
  | .advance => 1

/-- The codes of the record states. -/
def statusByte : RecordState → Byte
  | .pending => 0
  | .tracking _ => 1
  | .candidate => 2
  | .granted _ => 3
  | .riding => 4
  | .held _ => 5

/-- The codes of the reasons, 0xFF where the state has none. -/
def reasonByte : RecordState → Byte
  | .tracking .far => 0
  | .tracking .beyond => 1
  | .tracking .covered => 2
  | .tracking .early => 3
  | .tracking .lowScore => 4
  | .tracking .noSlack => 5
  | .tracking .lockout => 6
  | .tracking .notServed => 7
  | .held .indefinite => 8
  | .held .junctionDark => 9
  | .pending => 0xFF
  | .candidate => 0xFF
  | .granted _ => 0xFF
  | .riding => 0xFF

/-- The codes of the priority classes (R39). -/
def classByte : PriorityClass → Byte
  | .schedule => 0
  | .late => 1
  | .headway => 2
  | .forced => 3

/-- The codes of the forecast sources. -/
def sourceByte : Source → Byte
  | .speed => 0
  | .segment => 1

/-- The codes of the decision kinds. -/
def decisionByte : DecisionKind → Byte
  | .none => 0
  | .extend _ _ => 1
  | .advance _ _ => 2
  | .far => 3
  | .noSlack => 4
  | .notServed => 5

/-- The codes of the segment states. -/
def segmentStateByte : SegmentState → Byte
  | .fresh _ => 1
  | .degraded _ => 2
  | .stale => 3

/-! ### Results (R162) -/

/-- A step entry of a plan as PLAN_READ sends it; a step beyond the count is sent as 0. -/
def stepBytes : Option PlanStep → List Byte
  | some st =>
    byteOf st.phase :: le16Nat st.split ++ le16Nat st.minGreen ++ [flagByte st.guarded]
      ++ le16Nat st.maxExtension ++ le16Nat st.maxAdvance
  | none => List.replicate 10 0

/-- An approach map entry as PLAN_READ sends it. -/
def approachBytes (a : ApproachEntry) : List Byte :=
  [codeOr byteOf a.priority, codeOr (fun k : SegmentId => byteOf k.val) a.feeding]

/-- The PLAN_STAGE body of a plan (R24, R162). -/
def planBytes (j : JunctionId) (p : Plan) : List Byte :=
  [byteOf j.val, p.planId] ++ le16Nat p.cycle ++ [byteOf p.steps.length]
    ++ (List.range 8).flatMap (fun k => stepBytes p.steps[k]?) ++ p.approaches.toList.flatMap approachBytes

/-- The result of SEGMENT_READ (R140, R162). -/
def segmentBytes (k : SegmentId) (g : Segment) : List Byte :=
  [segmentStateByte g.state, byteOf k.val, byteOf g.source.val, byteOf g.target.val] ++ le16Nat g.length
    ++ le16Nat g.tmin ++ le16Nat g.tcap ++ le16Nat g.tnom ++ le16Nat g.estimate ++ [byteOf g.streak]
    ++ le32 g.lastSample ++ le32 ((staleDeadline g).getD 0)

/-- The POLICY_SET body of the policy in force (R162, R164). -/
def policyBytes (p : Policy) : List Byte :=
  le16Nat p.horizon ++ [byteOf p.guardTime] ++ le16Nat p.early ++ le16Nat p.threshold
    ++ [byteOf p.minGrant, flagByte p.partials, byteOf p.decisionLife] ++ le16Nat p.debtLimit
    ++ [byteOf p.recoveryRate, byteOf p.lockoutCycles] ++ le16Nat p.recordLifetime
    ++ [byteOf p.acceptTimeout, byteOf p.linkTimeout, byteOf p.syncTolerance] ++ le16Nat p.passageLifetime
    ++ le16Nat p.staleTime

/-- The dark reason of a sync state, if it is DARK. -/
def darkReasonOf : Sync → Option DarkReason
  | .dark r => some r
  | .live _ => none

/-- The result of JUNCTION_QUERY (R162, R163). -/
def queryBytes (now : Time) (c : Junction) : List Byte :=
  [flagByte (isLive c), codeOr darkReasonByte (darkReasonOf c.sync), codeOr localModeByte c.localMode,
      flagByte c.liveness.isSome, (planIdOf c.activePlan).getD 0, (planIdOf c.stagedPlan).getD 0]
    ++ le32 (c.lastCycleStart.getD 0) ++ le16Nat (positionAt now c) ++ [c.cycleCount, codeOr byteOf c.currentStep]
    ++ le32 (c.stepStart.getD 0) ++ le16Int c.adjustment ++ [grantModeByte (modeOf c)]
    ++ [codeOr (fun g : Grant => byteOf g.slot.val) c.grant, codeOr Grant.generation c.grant,
      codeOr (fun g : Grant => byteOf g.step) c.grant, codeOr (fun g : Grant => grantKindByte g.kind) c.grant]
    ++ le16Nat ((c.grant.map Grant.amount).getD 0) ++ le32 ((c.grant.map Grant.offerTime).getD 0)
    ++ le16Int c.debt ++ [byteOf c.lockout, flagByte c.suspended, byteOf c.candidates.length, c.changeCount]
    ++ le16 ((c.lastServed.map Summary.vehicle).getD 0)
    ++ [codeOr (fun m : Summary => grantKindByte m.kind) c.lastServed]
    ++ le16Nat ((c.lastServed.map Summary.amount).getD 0) ++ le32 ((c.lastServed.map Summary.arrival).getD 0)

/-- The forecast part of a RECORD_LOOKUP result, with the codes of absent parts (R162). -/
def forecastBytes : Option Forecast → List Byte
  | some (.value te rho a b src) => 0 :: le32 te ++ le32 (BitVec.ofNat 32 rho) ++ le16Nat a ++ le16Nat b ++ [sourceByte src]
  | some (.atBar te rho a b src) => 1 :: le32 te ++ le32 (BitVec.ofNat 32 rho) ++ le16Nat a ++ le16Nat b ++ [sourceByte src]
  | some (.beyond te rho src) =>
    2 :: le32 te ++ le32 (BitVec.ofNat 32 rho) ++ [0xFF, 0xFF, 0xFF, 0xFF] ++ [sourceByte src]
  | some (.indefinite te) => 3 :: le32 te ++ [0xFF, 0xFF, 0xFF, 0xFF] ++ [0xFF, 0xFF, 0xFF, 0xFF] ++ [0xFF]
  | none => 0 :: le32 0 ++ [0xFF, 0xFF, 0xFF, 0xFF] ++ [0xFF, 0xFF, 0xFF, 0xFF] ++ [0xFF]

/-- The amount and the partial flag of a decision, coded 0 and 0xFF where absent (R162). -/
def amountBytes : DecisionKind → List Byte
  | .extend n p => le16Nat n ++ [flagByte p]
  | .advance n p => le16Nat n ++ [flagByte p]
  | _ => le16Nat 0 ++ [0xFF]

/-- The decision part of a RECORD_LOOKUP result (R162). -/
def decisionBytes : Option Decision → List Byte
  | some d => decisionByte d.kind :: amountBytes d.kind ++ le32 d.time
  | none => 0 :: amountBytes .none ++ le32 0

/-- The presence byte of a RECORD_LOOKUP result (R162). -/
def presenceByte (r : Record) (tag : Option Byte) : Byte :=
  byteOf ((if r.dwell.isSome then 1 else 0) + (if r.deviation.isSome then 2 else 0)
    + (if r.occupancy.isSome then 4 else 0) + (if r.forecast.isSome then 8 else 0)
    + (if r.decision.isSome then 16 else 0) + (if tag.isSome then 32 else 0)
    + (if r.changedInFlight then 64 else 0) + (if r.refreshWanted then 128 else 0))

/-- The grant tag of a record state, while it is GRANTED (R41). -/
def tagOf : RecordState → Option Byte
  | .granted t => some t
  | _ => none

/-- The result of RECORD_LOOKUP (R162, R163). The bytes of an absent dwell, deviation, occupancy or grant tag are free
(log 11): six of them, from the given count on. -/
def lookupBytes (free : Nat) (i : SlotId) (sl : Slot) (r : Record) : List Byte :=
  [byteOf i.val, sl.generation] ++ le16 r.vehicle
    ++ [byteOf r.junction.val, byteOf r.approach.val, classByte r.cls, statusByte r.status, reasonByte r.status,
      r.sequence, presenceByte r (tagOf r.status)]
    ++ le16Nat r.distance ++ ((r.speed.map le16Nat).getD [0xFF, 0xFF])
    ++ ((r.dwell.map le16Nat).getD [Config.freeByte free, Config.freeByte (free + 1)])
    ++ ((r.deviation.map le16Int).getD [Config.freeByte (free + 2), Config.freeByte (free + 3)])
    ++ [(r.occupancy.map byteOf).getD (Config.freeByte (free + 4))]
    ++ le32 r.checkInTime ++ le32 r.lastMessage ++ le32 r.expiry ++ forecastBytes r.forecast
    ++ decisionBytes r.decision ++ le16Nat r.score ++ [(tagOf r.status).getD (Config.freeByte (free + 5))]

/-- One entry of a listing (R162, R165). -/
def listEntryBytes (s : State) (i : SlotId) : List Byte :=
  [byteOf i.val, (slotAt s i).generation] ++ le16 (((recordAt s i).map Record.vehicle).getD 0)
    ++ le16Nat (((recordAt s i).map Record.score).getD 0)

/-- The result of LIST_START and LIST_CONTINUE: remaining count, change count, entry count, and the entries (R165). -/
def listBytes (s : State) (remaining : Nat) (count : Byte) (entries : List SlotId) : List Byte :=
  [byteOf remaining, count, byteOf entries.length] ++ entries.flatMap (listEntryBytes s)

/-- A mask with one bit per category, bit number by bit number (R166). -/
def maskOf (p : Notice → Bool) (s : State) : Half :=
  BitVec.ofNat 16 (((List.finRange 12).map fun k => if p s.notices[k] then 2 ^ k.val else 0).sum)

/-- The result of NOTICE_READ (R166). -/
def noticeBytes (s : State) : List Byte :=
  le16 (maskOf Notice.raised s) ++ le16 (maskOf Notice.enabled s) ++ [flagByte s.masterEnable]
    ++ s.notices.toList.map fun n => byteOf n.count

/-! ### Plans (R22 to R24) -/

/-- What a command answers: a response code and the result of an OK response. -/
abbrev Answer := ResponseCode × List Byte

/-- A step entry passes check 3 of R22; a protected flag other than 0 or 1 fails it (R162). -/
def stepInRange (b : StepBody) : Bool :=
  decide (1 ≤ b.phase.toNat ∧ b.phase.toNat ≤ 8) && decide (50 ≤ b.split.toNat ∧ b.split.toNat ≤ 1200)
    && decide (30 ≤ b.minGreen.toNat ∧ b.minGreen.toNat ≤ b.split.toNat) && decide (b.guarded.toNat ≤ 1)
    && decide (b.maxExtension.toNat ≤ 400) && decide (b.maxAdvance.toNat ≤ 400)

/-- The step a step entry stages (R21, R162). -/
def stepOf (b : StepBody) : PlanStep where
  phase := b.phase.toNat
  split := b.split.toNat
  minGreen := b.minGreen.toNat
  guarded := decide (b.guarded = 1#8)
  maxExtension := b.maxExtension.toNat
  maxAdvance := b.maxAdvance.toNat

/-- The approach map entry a body entry stages; 0xFF marks an absent part (R21, R162). -/
def approachEntryOf (b : ApproachBody) : ApproachEntry where
  priority := if b.priority = 0xFF#8 then none else some b.priority.toNat
  feeding := if h : b.feeding.toNat < 32 then some ⟨b.feeding.toNat, h⟩ else none

/-- An approach map entry passes check 7 of R22. -/
def approachInRange (n : Nat) (b : ApproachBody) : Bool :=
  (decide (b.priority = 0xFF#8) || decide (b.priority.toNat < n))
    && (decide (b.feeding = 0xFF#8) || decide (b.feeding.toNat < 32))

/-- The step entries of a plan body that are in use: the first n (R162). -/
def usedSteps (b : PlanBody) : List StepBody := b.steps.toList.take b.count.toNat

/-- The plan a body carries (R21, R162). -/
def planOf (b : PlanBody) : Plan where
  planId := b.planId
  cycle := b.cycle.toNat
  steps := (usedSteps b).map stepOf
  approaches := b.approaches.map approachEntryOf

/-- Checks 2 to 7 of R22. -/
def planInRange (b : PlanBody) : Bool :=
  decide (1 ≤ b.planId.toNat) && decide (400 ≤ b.cycle.toNat ∧ b.cycle.toNat ≤ 2400)
    && decide (2 ≤ b.count.toNat ∧ b.count.toNat ≤ 8)
    && (usedSteps b).all stepInRange
    && decide ((planOf b).steps.map PlanStep.phase).Nodup
    && (planOf b).steps.all (fun st => !st.guarded || (decide (st.maxExtension = 0) && decide (st.maxAdvance = 0)))
    && decide (((planOf b).steps.map PlanStep.split).sum = b.cycle.toNat)
    && b.approaches.toList.all (approachInRange b.count.toNat)

/-- PLAN_STAGE (R22, R23): the checks in order, then the staged slot filled. -/
def planStage (b : PlanBody) (s : State) : State × Answer :=
  match junctionOf b.junction with
  | none => (s, .badJunction, [])
  | some j =>
    if planInRange b then
      if planIdOf (junctionAt s j).activePlan = some b.planId then (s, .notAllowed, [])
      else (onJunction j (fun c => { c with stagedPlan := some (planOf b) }) s, .ok, [])
    else (s, .badField, [])

/-- PLAN_READ (R24, R163). -/
def planRead (junction slotCode : Byte) (s : State) : Answer :=
  match junctionOf junction with
  | none => (.badJunction, [])
  | some j =>
    let read (p : Option Plan) : Answer :=
      match p with
      | some p => (.ok, planBytes j p)
      | none => (.noRecord, [])
    if slotCode = 0#8 then read (junctionAt s j).activePlan
    else if slotCode = 1#8 then read (junctionAt s j).stagedPlan
    else (.badField, [])

/-! ### Segments (R139, R140) -/

/-- The number of a segment a command names, if it is 0 to 31 (R139). -/
def segmentOf (b : Byte) : Option SegmentId := if h : b.toNat < 32 then some ⟨b.toNat, h⟩ else none

/-- Checks 4 and 5 of R139. -/
def segmentInRange (b : SegmentBody) : Bool :=
  decide (50 ≤ b.length.toNat ∧ b.length.toNat ≤ 4000) && decide (20 ≤ b.tmin.toNat ∧ b.tmin.toNat ≤ 6000)
    && decide (100 ≤ b.tcap.toNat ∧ b.tcap.toNat ≤ 6000) && decide (b.tmin.toNat ≤ b.tcap.toNat)
    && decide (b.tmin.toNat ≤ b.tnom.toNat ∧ b.tnom.toNat ≤ b.tcap.toNat)

/-- Another configured segment has the same pair of junctions (R139, check 6). -/
def pairTaken (s : State) (k : SegmentId) (i j : JunctionId) : Bool :=
  (List.finRange 32).any fun m =>
    decide (m ≠ k) && (segmentAt s m).any fun g => decide (g.source = i) && decide (g.target = j)

/-- The segment record SEGMENT_SET configures (R139). -/
def configured (s : State) (b : SegmentBody) (i j : JunctionId) : Segment where
  state := .fresh (timeAdd s.time s.policy.staleTime)
  source := i
  target := j
  length := b.length.toNat
  tmin := b.tmin.toNat
  tcap := b.tcap.toNat
  tnom := b.tnom.toNat
  estimate := b.tnom.toNat
  streak := 0
  lastSample := s.time

/-- SEGMENT_SET (R139): the checks in order, then the segment configured and its tied records enqueued. -/
def segmentSet (b : SegmentBody) (s : State) : State × Answer :=
  match segmentOf b.segment with
  | none => (s, .badField, [])
  | some k =>
    match junctionOf b.source, junctionOf b.target with
    | some i, some j =>
      if i = j then (s, .badField, [])
      else if segmentInRange b then
        if pairTaken s k i j then (s, .notAllowed, [])
        else (enqueueTied k (setSegment k (some (configured s b i j)) s), .ok, [])
      else (s, .badField, [])
    | _, _ => (s, .badJunction, [])

/-- SEGMENT_READ (R140). -/
def segmentRead (segment : Byte) (s : State) : Answer :=
  match segmentOf segment with
  | none => (.badField, [])
  | some k =>
    match segmentAt s k with
    | some g => (.ok, segmentBytes k g)
    | none => (.noRecord, [])

/-! ### Policy (R16, R164) -/

/-- Every item of a POLICY_SET body lies in its range (R164). -/
def policyInRange (b : PolicyBody) : Bool :=
  decide (300 ≤ b.horizon.toNat ∧ b.horizon.toNat ≤ 1800) && decide (b.guardTime.toNat ≤ 100)
    && decide (b.early.toNat ≤ 300) && decide (b.threshold.toNat ≤ 1022)
    && decide (10 ≤ b.minGrant.toNat ∧ b.minGrant.toNat ≤ 100) && decide (b.partials.toNat ≤ 1)
    && decide (5 ≤ b.decisionLife.toNat ∧ b.decisionLife.toNat ≤ 100) && decide (b.debtLimit.toNat ≤ 600)
    && decide (10 ≤ b.recoveryRate.toNat ∧ b.recoveryRate.toNat ≤ 200)
    && decide (1 ≤ b.lockoutCycles.toNat ∧ b.lockoutCycles.toNat ≤ 7)
    && decide (600 ≤ b.recordLifetime.toNat ∧ b.recordLifetime.toNat ≤ 6000)
    && decide (5 ≤ b.acceptTimeout.toNat ∧ b.acceptTimeout.toNat ≤ 50)
    && decide (20 ≤ b.linkTimeout.toNat ∧ b.linkTimeout.toNat ≤ 100) && decide (b.syncTolerance.toNat ≤ 50)
    && decide (600 ≤ b.passageLifetime.toNat ∧ b.passageLifetime.toNat ≤ 6000)
    && decide (3000 ≤ b.staleTime.toNat ∧ b.staleTime.toNat ≤ 36000)

/-- The policy a POLICY_SET body carries (R164). -/
def policyOf (b : PolicyBody) : Policy where
  horizon := b.horizon.toNat
  guardTime := b.guardTime.toNat
  early := b.early.toNat
  threshold := b.threshold.toNat
  minGrant := b.minGrant.toNat
  partials := decide (b.partials = 1#8)
  decisionLife := b.decisionLife.toNat
  debtLimit := b.debtLimit.toNat
  recoveryRate := b.recoveryRate.toNat
  lockoutCycles := b.lockoutCycles.toNat
  recordLifetime := b.recordLifetime.toNat
  acceptTimeout := b.acceptTimeout.toNat
  linkTimeout := b.linkTimeout.toNat
  syncTolerance := b.syncTolerance.toNat
  passageLifetime := b.passageLifetime.toNat
  staleTime := b.staleTime.toNat

/-- The cycle limit deadline of a LIVE junction set again from its last cycle start; where the new deadline is not later
than now the junction goes DARK(NO_CYCLE) (R16). -/
def resetCycleLimit (now : Time) (j : JunctionId) (s : State) : State :=
  let c := junctionAt s j
  if isLive c then
    let limit := cycleLimit s.policy (cycleOf c) (c.lastCycleStart.getD now)
    if reached now limit then goDark now j .noCycle s else onJunction j (fun c => { c with sync := .live limit }) s
  else s

/-- POLICY_SET (R16, R164): checked whole, then every item replaced and the cycle limit deadlines set again. -/
def policySet (b : PolicyBody) (s : State) : State × Answer :=
  if policyInRange b then
    ((List.finRange 16).foldl (fun t j => resetCycleLimit s.time j t) { s with policy := policyOf b }, .ok, [])
  else (s, .badField, [])

/-! ### Junctions (R124, R163) -/

/-- JUNCTION_QUERY (R163). -/
def junctionQuery (junction : Byte) (s : State) : Answer :=
  match junctionOf junction with
  | some j => (.ok, queryBytes s.time (junctionAt s j))
  | none => (.badJunction, [])

/-- JUNCTION_SUSPEND (R124). -/
def junctionSuspend (junction : Byte) (s : State) : State × Answer :=
  match junctionOf junction with
  | some j => (onJunction j (fun c => { c with suspended := true }) s, .ok, [])
  | none => (s, .badJunction, [])

/-- JUNCTION_RESUME: the flag cleared and the issue check run, each time it is taken (R124). -/
def junctionResume (junction : Byte) (s : State) : State × Answer :=
  match junctionOf junction with
  | some j => (issueCheck s.time j (onJunction j (fun c => { c with suspended := false }) s), .ok, [])
  | none => (s, .badJunction, [])

/-! ### Records (R54, R163) -/

/-- The slot a command names, or the response that answers the name (R163). `strict` compares the generation, as
RECORD_RETIRE and RECORD_FORCE do. -/
def resolveName (s : State) (strict : Bool) (n : RecordName) : Except ResponseCode SlotId :=
  if n.mode = 0#8 then
    match junctionOf n.junction with
    | none => .error .badJunction
    | some _ =>
      match findKey s n.vehicle n.junction with
      | some i => .ok i
      | none => .error .noRecord
  else if n.mode = 1#8 then
    if h : n.slot.toNat < 96 then
      let i : SlotId := ⟨n.slot.toNat, h⟩
      if (recordAt s i).isNone then .error .noRecord
      else if strict ∧ (slotAt s i).generation ≠ n.generation then .error .noRecord
      else .ok i
    else .error .badField
  else .error .badField

/-- RECORD_LOOKUP (R163): the record as it stands; six free bytes are used (log 11). -/
def recordLookup (n : RecordName) (s : State) : State × Answer :=
  match resolveName s false n with
  | .error c => (s, c, [])
  | .ok i =>
    match recordAt s i with
    | some r => ({ s with freeCount := s.freeCount + 6 }, .ok, lookupBytes s.freeCount i (slotAt s i) r)
    | none => (s, .noRecord, [])

/-- RECORD_RETIRE (R54, R163). -/
def recordRetire (n : RecordName) (s : State) : State × Answer :=
  match resolveName s true n with
  | .error c => (s, c, [])
  | .ok i => (retire s.time i .retired s, .ok, [])

/-- RECORD_FORCE (R42, R163). -/
def recordForce (n : RecordName) (s : State) : State × Answer :=
  match resolveName s true n with
  | .error c => (s, c, [])
  | .ok i =>
    match recordAt s i with
    | some r => (forceRecord s.time i r s, .ok, [])
    | none => (s, .noRecord, [])

/-! ### The candidate listing (R165) -/

/-- The entries a listing returns from a position: up to four (R165). -/
def listed (c : Junction) (position : Nat) : List SlotId := (c.candidates.drop position).take 4

/-- The answer and the cursor of a listing read from a position (R165). -/
def listFrom (s : State) (j : JunctionId) (position : Nat) : Option Cursor × Answer :=
  let c := junctionAt s j
  let entries := listed c position
  let next := position + entries.length
  (some { junction := j, changeCount := c.changeCount, position := next }, .ok,
    listBytes s (c.candidates.length - next) c.changeCount entries)

/-- LIST_START (R165). -/
def listStart (junction : Byte) (s : State) : State × Answer :=
  match junctionOf junction with
  | none => (s, .badJunction, [])
  | some j => ({ s with cursor := (listFrom s j 0).1 }, (listFrom s j 0).2)

/-- LIST_CONTINUE (R165's table). -/
def listContinue (s : State) : State × Answer :=
  match s.cursor with
  | none => (s, .notAllowed, [])
  | some k =>
    if (junctionAt s k.junction).changeCount ≠ k.changeCount then ({ s with cursor := none }, .listStale, [])
    else ({ s with cursor := (listFrom s k.junction k.position).1 }, (listFrom s k.junction k.position).2)

/-! ### Notices (R166) -/

/-- Every category whose mask bit is 1 is changed; the others are untouched (R166). -/
def onMasked (mask : Half) (f : Notice → Notice) (s : State) : State :=
  { s with notices := Vector.ofFn fun k : Fin 12 => if mask.getLsbD k.val then f s.notices[k] else s.notices[k] }

/-- A mask has none of bits 12 to 15 set (R166). -/
def maskInRange (mask : Half) : Bool := decide (mask.toNat < 4096)

/-- NOTICE_WRITE (R166): an action on the enables, the pending flags or the master enable, or BAD_FIELD. -/
def noticeWrite (target action : Byte) (mask : Half) (s : State) : State × Answer :=
  if action = 1#8 then
    if target = 0#8 ∧ maskInRange mask = true then (onMasked mask (fun n => { n with enabled := true }) s, .ok, [])
    else if target = 1#8 ∧ maskInRange mask = true then (onMasked mask raisedNotice s, .ok, [])
    else if target = 2#8 then ({ s with masterEnable := true }, .ok, [])
    else (s, .badField, [])
  else if action = 2#8 then
    if target = 0#8 ∧ maskInRange mask = true then (onMasked mask (fun n => { n with enabled := false }) s, .ok, [])
    else if target = 1#8 ∧ maskInRange mask = true then
      (onMasked mask (fun n => { n with raised := false, count := 0 }) s, .ok, [])
    else if target = 2#8 then ({ s with masterEnable := false }, .ok, [])
    else (s, .badField, [])
  else (s, .badField, [])

/-! ### Taking a command (R160) -/

/-- The effect of a command and its answer, built from the state as the command left it (R160). -/
def act (c : Command) (s : State) : State × Answer :=
  match c with
  | .planStage b => planStage b s
  | .planRead j k => (s, planRead j k s)
  | .segmentSet b => segmentSet b s
  | .segmentRead k => (s, segmentRead k s)
  | .policySet b => policySet b s
  | .policyRead => (s, .ok, policyBytes s.policy)
  | .junctionQuery j => (s, junctionQuery j s)
  | .junctionSuspend j => junctionSuspend j s
  | .junctionResume j => junctionResume j s
  | .recordLookup n => recordLookup n s
  | .recordRetire n => recordRetire n s
  | .recordForce n => recordForce n s
  | .listStart j => listStart j s
  | .listContinue => listContinue s
  | .noticeRead => (s, .ok, noticeBytes s)
  | .noticeWrite t a m => noticeWrite t a m s
  | .corridorClear => (corridorClear s.time s, .ok, [])

/-- The port is EXECUTING (R160). -/
def isExecuting (s : State) : Bool :=
  match s.port with
  | .executing _ _ => true
  | _ => false

/-- The part drives 0x00 for every byte of a command transaction (R160). -/
def driveZeros (n : Nat) (s : State) : State := { s with spiDriven := List.replicate n 0 }

/-- A command frame is discarded: FRAME_ERROR once, and the port stays as it is (R160). -/
def discardCommand (n : Nat) (s : State) : State := raise .frameError (driveZeros n s)

/-- A command frame that passes the checks, in a transaction of n bytes: discarded while the port is EXECUTING, and
otherwise taken; a held response is discarded, and the response is built at the take (R160). -/
def takeCommand (n : Nat) (c : Command) (s : State) : State :=
  if isExecuting s then discardCommand n s
  else
    let r := act c s
    driveZeros n
      { r.1 with port := .executing { kind := commandCode c, code := r.2.1, result := r.2.2 } s.time }

/-- A command arrives in a frame of its fixed length: 5 bytes and the body (R149, R162). -/
def command (c : Command) (s : State) : State :=
  takeCommand ((commandSize (commandCode c)).getD 0 + 5) c s

/-- The response becomes ready: READY with the read mark clear (R160). -/
def makeReady (s : State) : State :=
  match s.port with
  | .executing r _ => { s with port := .ready r false }
  | _ => s

/-- The first `n` bytes of a frame, filled up with 0x00 (R161). -/
def drivenBytes (n : Nat) (frame : List Byte) : List Byte := frame.take n ++ List.replicate (n - frame.length) 0

/-- A read transaction with `n` bytes after the first: the response held while READY, which is then marked as read, or
the not-ready frame (R161). What is driven during the first byte is free (log 10). -/
def readResponse (n : Nat) (s : State) : State :=
  let first := Config.freeByte s.freeCount
  let t := { s with freeCount := s.freeCount + 1 }
  match s.port with
  | .ready r _ => { t with port := .ready r true, spiDriven := first :: drivenBytes n (responseFrame r) }
  | _ => { t with spiDriven := first :: drivenBytes n notReadyFrame }

/-- A transaction that opens with neither 0xA5 nor 0x5A is discarded with FRAME_ERROR (R160). What is driven in it is
free (log 10). -/
def discardOther (n : Nat) (s : State) : State :=
  raise .frameError
    { s with spiDriven := (List.range n).map (fun k => Config.freeByte (s.freeCount + k)), freeCount := s.freeCount + n }

/-- A transaction on the SPI target, by its first byte (R160, R161). -/
def transaction (first : Byte) (rest : List Byte) (s : State) : State :=
  if first = 0xA5#8 then
    match commandFrame rest with
    | some c => takeCommand (rest.length + 1) c s
    | none => discardCommand (rest.length + 1) s
  else if first = 0x5A#8 then readResponse rest.length s
  else discardOther (rest.length + 1) s

end Sys2Proof.Machine
end

