-- ==== Sys2Proof/Machine/PortMeanings.lean ====
section
/-! DEFINITION. The meanings of the supervisor port's transactions and commands: R160 to R168. Every command arrives in a
valid frame, which R160 takes or, while the port is EXECUTING, discards. -/

namespace Sys2Proof.Machine

/-- COMMAND_FRAME_DISCARDED: a transaction of these bytes ends. R160 discards the malformed ones, and any command while
the port is EXECUTING; bytes that R160 or R161 take are dealt with as those rules state (log 8). -/
def execCommandFrameDiscarded (first : Byte) (rest : List Byte) (s : State) : Host.Outcome State Fault Refusal :=
  .next (transaction first rest s)

/-- READ_TRANSACTION, with this many bytes after the first (R161). -/
def execReadTransaction (clocked : Nat) (s : State) : Host.Outcome State Fault Refusal :=
  .next (readResponse clocked s)

/-- RESPONSE_READY: RDY rises (R160). While the port is not EXECUTING it does not occur (log 2). -/
def execResponseReady (s : State) : Host.Outcome State Fault Refusal :=
  .next (makeReady s)

/-- PLAN_STAGE (R22, R23). -/
def execPlanStage (b : PlanBody) (s : State) : Host.Outcome State Fault Refusal :=
  .next (command (.planStage b) s)

/-- PLAN_READ (R24). -/
def execPlanRead (junction slotCode : Byte) (s : State) : Host.Outcome State Fault Refusal :=
  .next (command (.planRead junction slotCode) s)

/-- SEGMENT_SET (R139). -/
def execSegmentSet (b : SegmentBody) (s : State) : Host.Outcome State Fault Refusal :=
  .next (command (.segmentSet b) s)

/-- SEGMENT_READ (R140). -/
def execSegmentRead (segment : Byte) (s : State) : Host.Outcome State Fault Refusal :=
  .next (command (.segmentRead segment) s)

/-- POLICY_SET (R16, R164). -/
def execPolicySet (b : PolicyBody) (s : State) : Host.Outcome State Fault Refusal :=
  .next (command (.policySet b) s)

/-- POLICY_READ (R164). -/
def execPolicyRead (s : State) : Host.Outcome State Fault Refusal :=
  .next (command (.policyRead) s)

/-- JUNCTION_QUERY (R163). -/
def execJunctionQuery (junction : Byte) (s : State) : Host.Outcome State Fault Refusal :=
  .next (command (.junctionQuery junction) s)

/-- JUNCTION_SUSPEND (R124). -/
def execJunctionSuspend (junction : Byte) (s : State) : Host.Outcome State Fault Refusal :=
  .next (command (.junctionSuspend junction) s)

/-- JUNCTION_RESUME (R124). -/
def execJunctionResume (junction : Byte) (s : State) : Host.Outcome State Fault Refusal :=
  .next (command (.junctionResume junction) s)

/-- RECORD_LOOKUP (R163). -/
def execRecordLookup (n : RecordName) (s : State) : Host.Outcome State Fault Refusal :=
  .next (command (.recordLookup n) s)

/-- RECORD_RETIRE (R54). -/
def execRecordRetire (n : RecordName) (s : State) : Host.Outcome State Fault Refusal :=
  .next (command (.recordRetire n) s)

/-- RECORD_FORCE (R42, R163). -/
def execRecordForce (n : RecordName) (s : State) : Host.Outcome State Fault Refusal :=
  .next (command (.recordForce n) s)

/-- LIST_START (R165). -/
def execListStart (junction : Byte) (s : State) : Host.Outcome State Fault Refusal :=
  .next (command (.listStart junction) s)

/-- LIST_CONTINUE (R165). -/
def execListContinue (s : State) : Host.Outcome State Fault Refusal :=
  .next (command (.listContinue) s)

/-- NOTICE_READ (R166). -/
def execNoticeRead (s : State) : Host.Outcome State Fault Refusal :=
  .next (command (.noticeRead) s)

/-- NOTICE_WRITE with target enables and action set (R166). -/
def execNoticeWriteEnablesSet (mask : Half) (s : State) : Host.Outcome State Fault Refusal :=
  .next (command (.noticeWrite 0 1 mask) s)

/-- NOTICE_WRITE with target enables and action clear (R166). -/
def execNoticeWriteEnablesClear (mask : Half) (s : State) : Host.Outcome State Fault Refusal :=
  .next (command (.noticeWrite 0 2 mask) s)

/-- NOTICE_WRITE with target pending and action set (R166). -/
def execNoticeWritePendingSet (mask : Half) (s : State) : Host.Outcome State Fault Refusal :=
  .next (command (.noticeWrite 1 1 mask) s)

/-- NOTICE_WRITE with target pending and action clear (R166). -/
def execNoticeWritePendingClear (mask : Half) (s : State) : Host.Outcome State Fault Refusal :=
  .next (command (.noticeWrite 1 2 mask) s)

/-- NOTICE_WRITE with target master and action set; the mask is ignored (R166). -/
def execNoticeWriteMasterOn (mask : Half) (s : State) : Host.Outcome State Fault Refusal :=
  .next (command (.noticeWrite 2 1 mask) s)

/-- NOTICE_WRITE with target master and action clear; the mask is ignored (R166). -/
def execNoticeWriteMasterOff (mask : Half) (s : State) : Host.Outcome State Fault Refusal :=
  .next (command (.noticeWrite 2 2 mask) s)

/-- A NOTICE_WRITE with any codes and mask: R166 answers BAD_FIELD to the refused ones (log 9). -/
def execNoticeWriteRefused (target action : Byte) (mask : Half) (s : State) : Host.Outcome State Fault Refusal :=
  .next (command (.noticeWrite target action mask) s)

/-- CORRIDOR_CLEAR (R168). -/
def execCorridorClear (s : State) : Host.Outcome State Fault Refusal :=
  .next (command (.corridorClear) s)

end Sys2Proof.Machine
end

