-- ==== Sys2Proof/Machine/PowerTime.lean ====
section
/-! DEFINITION. The meanings of the power-on and the reference clock: R1 and R5. -/

namespace Sys2Proof.Machine

/-- POWER_ON: every block takes its power-on values (R1, R5, R37, R89, R103, R105, R125, R138, R141, R159 to R167). The
model's own queue and count of free values stay (log 19). -/
def execPowerOn (s : State) : Host.Outcome State Fault Refusal :=
  .next { State.reset with pending := s.pending, freeCount := s.freeCount }

/-- CORRIDOR_TIME_TICK: corridor time advances by one, wrapping after 4294967295 (R1). -/
def execCorridorTimeTick (s : State) : Host.Outcome State Fault Refusal :=
  .next { s with time := s.time + 1 }

end Sys2Proof.Machine
end

