-- ==== Sys2Proof/Machine/TimerMeanings.lean ====
section
/-! DEFINITION. The meanings of the deadlines that expire: R3, R8, R16, R53, R113, R143, R146 and R151. An expiry
carries its deadline as its time (R1); one whose deadline is absent or not yet reached does not occur (log 2, log 3). -/

namespace Sys2Proof.Machine

/-- GAP_DEADLINE_EXPIRY: the frame in progress is discarded with FRAME_ERROR (R151). -/
def execGapDeadlineExpiry (link : Link) (s : State) : Host.Outcome State Fault Refusal :=
  match due s.time (gapOf (assemblerOf s link)) with
  | some _ => .next (discardFrame link s)
  | none => .next s

/-- LIVENESS_EXPIRY: the link of a junction is lost (R8). -/
def execLivenessExpiry (j : JunctionId) (s : State) : Host.Outcome State Fault Refusal :=
  match due s.time (junctionAt s j).liveness with
  | some d => .next (loseLink d j s)
  | none => .next s

/-- CYCLE_LIMIT_EXPIRY: a LIVE junction goes DARK(NO_CYCLE) (R16). -/
def execCycleLimitExpiry (j : JunctionId) (s : State) : Host.Outcome State Fault Refusal :=
  match due s.time (limitOf (junctionAt s j)) with
  | some d => .next (goDark d j .noCycle s)
  | none => .next s

/-- RECORD_EXPIRY: the record is retired EXPIRED, and EXPIRED is raised (R53). -/
def execRecordExpiry (slot : SlotId) (s : State) : Host.Outcome State Fault Refusal :=
  match due s.time ((recordAt s slot).map Record.expiry) with
  | some d => .next (raise .expired (retire d slot .expired s))
  | none => .next s

/-- ACCEPT_DEADLINE_EXPIRY: the outstanding directive is taken as unanswered (R113, R132). -/
def execAcceptDeadlineExpiry (j : JunctionId) (s : State) : Host.Outcome State Fault Refusal :=
  match due s.time (junctionAt s j).acceptDeadline with
  | some d => .next (answerTimeout d j s)
  | none => .next s

/-- PASSAGE_ENTRY_EXPIRY: the vehicle's entry is removed (R143). -/
def execPassageEntryExpiry (vehicle : Half) (s : State) : Host.Outcome State Fault Refusal :=
  match due s.time ((entryOf vehicle s.passages).map PassageEntry.expiry) with
  | some _ => .next { s with passages := dropEntry vehicle s.passages }
  | none => .next s

/-- STALE_DEADLINE_EXPIRY: the segment becomes STALE, and its tied records are enqueued (R146). -/
def execStaleDeadlineExpiry (segment : SegmentId) (s : State) : Host.Outcome State Fault Refusal :=
  match segmentAt s segment with
  | some g =>
    match due s.time (staleDeadline g) with
    | some _ => .next (goStale segment g s)
    | none => .next s
  | none => .next s

end Sys2Proof.Machine
end

