-- ==== Sys2Proof/Machine/Dispatch.lean ====
section
/-! DEFINITION. One arm per command of the opcode table. -/

namespace Sys2Proof.Machine

def exec (i : Instr) (s : State) : Host.Outcome State Fault Refusal :=
  match i with
  | .powerOn => Sys2Proof.Machine.execPowerOn s
  | .checkIn m => Sys2Proof.Machine.execCheckIn m s
  | .update m => Sys2Proof.Machine.execUpdate m s
  | .checkOut vehicle junction => Sys2Proof.Machine.execCheckOut vehicle junction s
  | .cancel vehicle junction => Sys2Proof.Machine.execCancel vehicle junction s
  | .badFrame link cause => Sys2Proof.Machine.execBadFrame link cause s
  | .gapDeadlineExpiry link => Sys2Proof.Machine.execGapDeadlineExpiry link s
  | .foreignJunctionFrame m => Sys2Proof.Machine.execForeignJunctionFrame m s
  | .status junction mode => Sys2Proof.Machine.execStatus junction mode s
  | .cycleStart junction count planId => Sys2Proof.Machine.execCycleStart junction count planId s
  | .phaseStart junction phase => Sys2Proof.Machine.execPhaseStart junction phase s
  | .phaseEnd junction phase => Sys2Proof.Machine.execPhaseEnd junction phase s
  | .passage junction approach vehicle => Sys2Proof.Machine.execPassage junction approach vehicle s
  | .accept junction tag => Sys2Proof.Machine.execAccept junction tag s
  | .decline junction tag reason => Sys2Proof.Machine.execDecline junction tag reason s
  | .livenessExpiry j => Sys2Proof.Machine.execLivenessExpiry j s
  | .cycleLimitExpiry j => Sys2Proof.Machine.execCycleLimitExpiry j s
  | .recordExpiry slot => Sys2Proof.Machine.execRecordExpiry slot s
  | .acceptDeadlineExpiry j => Sys2Proof.Machine.execAcceptDeadlineExpiry j s
  | .passageEntryExpiry vehicle => Sys2Proof.Machine.execPassageEntryExpiry vehicle s
  | .staleDeadlineExpiry segment => Sys2Proof.Machine.execStaleDeadlineExpiry segment s
  | .evaluationStart => Sys2Proof.Machine.execEvaluationStart s
  | .evaluationCompletion => Sys2Proof.Machine.execEvaluationCompletion s
  | .sentEvent => Sys2Proof.Machine.execSentEvent s
  | .commandFrameDiscarded first rest => Sys2Proof.Machine.execCommandFrameDiscarded first rest s
  | .readTransaction clocked => Sys2Proof.Machine.execReadTransaction clocked s
  | .responseReady => Sys2Proof.Machine.execResponseReady s
  | .planStage b => Sys2Proof.Machine.execPlanStage b s
  | .planRead junction slotCode => Sys2Proof.Machine.execPlanRead junction slotCode s
  | .segmentSet b => Sys2Proof.Machine.execSegmentSet b s
  | .segmentRead segment => Sys2Proof.Machine.execSegmentRead segment s
  | .policySet b => Sys2Proof.Machine.execPolicySet b s
  | .policyRead => Sys2Proof.Machine.execPolicyRead s
  | .junctionQuery junction => Sys2Proof.Machine.execJunctionQuery junction s
  | .junctionSuspend junction => Sys2Proof.Machine.execJunctionSuspend junction s
  | .junctionResume junction => Sys2Proof.Machine.execJunctionResume junction s
  | .recordLookup n => Sys2Proof.Machine.execRecordLookup n s
  | .recordRetire n => Sys2Proof.Machine.execRecordRetire n s
  | .recordForce n => Sys2Proof.Machine.execRecordForce n s
  | .listStart junction => Sys2Proof.Machine.execListStart junction s
  | .listContinue => Sys2Proof.Machine.execListContinue s
  | .noticeRead => Sys2Proof.Machine.execNoticeRead s
  | .noticeWriteEnablesSet mask => Sys2Proof.Machine.execNoticeWriteEnablesSet mask s
  | .noticeWriteEnablesClear mask => Sys2Proof.Machine.execNoticeWriteEnablesClear mask s
  | .noticeWritePendingSet mask => Sys2Proof.Machine.execNoticeWritePendingSet mask s
  | .noticeWritePendingClear mask => Sys2Proof.Machine.execNoticeWritePendingClear mask s
  | .noticeWriteMasterOn mask => Sys2Proof.Machine.execNoticeWriteMasterOn mask s
  | .noticeWriteMasterOff mask => Sys2Proof.Machine.execNoticeWriteMasterOff mask s
  | .corridorClear => Sys2Proof.Machine.execCorridorClear s
  | .corridorTimeTick => Sys2Proof.Machine.execCorridorTimeTick s
  | .linkByteReceived link byte uartError => Sys2Proof.Machine.execLinkByteReceived link byte uartError s
  | .noticeWriteRefused target action mask => Sys2Proof.Machine.execNoticeWriteRefused target action mask s

end Sys2Proof.Machine
end

