-- ==== Sys2Proof/Safety.lean ====
section
/-! DEFINITION. What the spec says of the whole part at all times: the invariants that claims are stated with, the
bounds on when events are taken, and the terms in which frames are stated. -/

namespace Sys2Proof.Safety

open Sys2Proof.Machine

/-! ### Notices and policy -/

/-- "A category's count is above 0 exactly while its flag is pending", and the count is 0 to 255 (R166). -/
def NoticesCounted (s : State) : Prop :=
  ∀ k : Fin 12, s.notices[k].count ≤ 255 ∧ (0 < s.notices[k].count ↔ s.notices[k].raised = true)

/-- The 12 categories in the order of their bit numbers, 0 to 11 (R166). -/
def categories : List Category :=
  [.expired, .tableFull, .badRequest, .frameError, .junctionDark, .syncSlip, .declined, .offerTimeout, .lateAnswer,
    .debtLimit, .segmentDegraded, .soft]

/-- Every policy item lies in its range (R164). -/
def PolicyBounded (p : Policy) : Prop :=
  (300 ≤ p.horizon ∧ p.horizon ≤ 1800) ∧ p.guardTime ≤ 100 ∧ p.early ≤ 300 ∧ p.threshold ≤ 1022
    ∧ (10 ≤ p.minGrant ∧ p.minGrant ≤ 100) ∧ (5 ≤ p.decisionLife ∧ p.decisionLife ≤ 100) ∧ p.debtLimit ≤ 600
    ∧ (10 ≤ p.recoveryRate ∧ p.recoveryRate ≤ 200) ∧ (1 ≤ p.lockoutCycles ∧ p.lockoutCycles ≤ 7)
    ∧ (600 ≤ p.recordLifetime ∧ p.recordLifetime ≤ 6000) ∧ (5 ≤ p.acceptTimeout ∧ p.acceptTimeout ≤ 50)
    ∧ (20 ≤ p.linkTimeout ∧ p.linkTimeout ≤ 100) ∧ p.syncTolerance ≤ 50
    ∧ (600 ≤ p.passageLifetime ∧ p.passageLifetime ≤ 6000) ∧ (3000 ≤ p.staleTime ∧ p.staleTime ≤ 36000)

/-- The policy is in its ranges (R164), and every junction's debt stays between -999 and +999, its lockout between 0
and 7 (R125) and its cycle adjustment between -1200 and +1200 (R15). -/
def RecoveryBounded (s : State) : Prop :=
  PolicyBounded s.policy ∧
    ∀ j : JunctionId, (-999 ≤ (junctionAt s j).debt ∧ (junctionAt s j).debt ≤ 999) ∧ (junctionAt s j).lockout ≤ 7
      ∧ (-1200 ≤ (junctionAt s j).adjustment ∧ (junctionAt s j).adjustment ≤ 1200)

/-! ### Plans -/

/-- A step of a plan of n steps has its fields in R21's ranges, and a protected step has both maximums 0 (R22). -/
def StepBounded (st : PlanStep) : Prop :=
  (1 ≤ st.phase ∧ st.phase ≤ 8) ∧ (50 ≤ st.split ∧ st.split ≤ 1200) ∧ (30 ≤ st.minGreen ∧ st.minGreen ≤ st.split)
    ∧ st.maxExtension ≤ 400 ∧ st.maxAdvance ≤ 400 ∧ (st.guarded = true → st.maxExtension = 0 ∧ st.maxAdvance = 0)

/-- A plan meets R21's ranges and R22's checks 2 to 7. -/
def PlanSound (p : Plan) : Prop :=
  p.planId ≠ 0#8 ∧ (400 ≤ p.cycle ∧ p.cycle ≤ 2400) ∧ (2 ≤ p.steps.length ∧ p.steps.length ≤ 8)
    ∧ (∀ st ∈ p.steps, StepBounded st) ∧ (p.steps.map PlanStep.phase).Nodup
    ∧ (p.steps.map PlanStep.split).sum = p.cycle
    ∧ ∀ q : Fin 4, ∀ k ∈ (p.approaches[q]).priority, k < p.steps.length

/-- A PLAN_STAGE body passes checks 2 to 7 of R22. -/
def PlanFields (b : PlanBody) : Prop :=
  b.planId ≠ 0#8 ∧ (400 ≤ b.cycle.toNat ∧ b.cycle.toNat ≤ 2400) ∧ (2 ≤ b.count.toNat ∧ b.count.toNat ≤ 8)
    ∧ (∀ k : Fin 8, k.val < b.count.toNat →
        (let st := b.steps[k]
         (1 ≤ st.phase.toNat ∧ st.phase.toNat ≤ 8) ∧ (50 ≤ st.split.toNat ∧ st.split.toNat ≤ 1200)
           ∧ (30 ≤ st.minGreen.toNat ∧ st.minGreen.toNat ≤ st.split.toNat)
           ∧ (st.guarded = 0#8 ∨ st.guarded = 1#8) ∧ st.maxExtension.toNat ≤ 400 ∧ st.maxAdvance.toNat ≤ 400
           ∧ (st.guarded = 1#8 → st.maxExtension = 0#16 ∧ st.maxAdvance = 0#16)
           ∧ ∀ m : Fin 8, m.val < b.count.toNat → st.phase = b.steps[m].phase → k = m))
    ∧ ((b.steps.toList.take b.count.toNat).map fun st => st.split.toNat).sum = b.cycle.toNat
    ∧ ∀ q : Fin 4,
        (b.approaches[q].priority = 0xFF#8 ∨ b.approaches[q].priority.toNat < b.count.toNat)
          ∧ (b.approaches[q].feeding = 0xFF#8 ∨ b.approaches[q].feeding.toNat ≤ 31)

/-- Every plan held is sound, and the staged and active ids of a junction differ (R10, R22). A LIVE junction has an
active plan with a running step in it, the times of its cycle and step, COORD as its local mode and a live link (R7,
R12, R25). -/
def ClocksSound (s : State) : Prop :=
  ∀ j : JunctionId,
    (∀ p ∈ (junctionAt s j).activePlan, PlanSound p) ∧ (∀ p ∈ (junctionAt s j).stagedPlan, PlanSound p)
      ∧ (∀ p ∈ (junctionAt s j).activePlan, ∀ q ∈ (junctionAt s j).stagedPlan, p.planId ≠ q.planId)
      ∧ (isLive (junctionAt s j) = true →
          (junctionAt s j).localMode = some .coord ∧ (junctionAt s j).liveness.isSome = true
            ∧ (junctionAt s j).lastCycleStart.isSome = true ∧ (junctionAt s j).stepStart.isSome = true
            ∧ (junctionAt s j).activePlan.isSome = true
            ∧ ∃ k ∈ (junctionAt s j).currentStep, k < (activeSteps (junctionAt s j)).length)

/-! ### Segments and passages -/

/-- A configured segment has its fields in R137's ranges: the estimate between its minimum travel and its capture
limit, a FRESH streak below 3, and a DEGRADED estimate at the capture limit (R138). -/
def SegmentBounded (g : Segment) : Prop :=
  g.source ≠ g.target ∧ (50 ≤ g.length ∧ g.length ≤ 4000) ∧ (20 ≤ g.tmin ∧ g.tmin ≤ g.tcap)
    ∧ (100 ≤ g.tcap ∧ g.tcap ≤ 6000) ∧ (g.tmin ≤ g.tnom ∧ g.tnom ≤ g.tcap)
    ∧ (g.tmin ≤ g.estimate ∧ g.estimate ≤ g.tcap) ∧ g.streak ≤ 3
    ∧ match g.state with
      | .fresh _ => g.streak ≤ 2
      | .degraded _ => g.streak = 3 ∧ g.estimate = g.tcap
      | .stale => True

/-- Every configured segment is in its ranges, and no two have the same pair of junctions (R137). -/
def SegmentsBounded (s : State) : Prop :=
  (∀ k : SegmentId, ∀ g ∈ segmentAt s k, SegmentBounded g)
    ∧ ∀ k m : SegmentId, ∀ g ∈ segmentAt s k, ∀ h ∈ segmentAt s m,
        g.source = h.source → g.target = h.target → k = m

/-- "The passage table holds at most 48 entries and at most one entry per vehicle" (R141). -/
def PassagesBounded (s : State) : Prop :=
  s.passages.length ≤ 48 ∧ (s.passages.map PassageEntry.vehicle).Nodup
    ∧ ∀ e ∈ s.passages, realVehicle e.vehicle = true

/-! ### Records, the evaluation queue and the candidate orders -/

/-- A record's reported fields are in R39's ranges, its score is 0 to 1023 (R40), and that of a class-3 record is 1023
(R42). -/
def RecordBounded (r : Record) : Prop :=
  realVehicle r.vehicle = true ∧ r.distance ≤ 4000 ∧ (∀ v ∈ r.speed, v ≤ 300) ∧ (∀ w ∈ r.dwell, w ≤ 1200)
    ∧ (∀ d ∈ r.deviation, -600 ≤ d ∧ d ≤ 600) ∧ (∀ o ∈ r.occupancy, o ≤ 150) ∧ r.score ≤ 1023
    ∧ (r.cls = .forced → r.score = 1023)

/-- Every record is in those ranges. -/
def RecordsBounded (s : State) : Prop := ∀ i : SlotId, ∀ r ∈ recordAt s i, RecordBounded r

/-- A stored forecast is in R40's ranges: the horizon of the evaluation that made it lies from 300 to 1800 (R164), a VALUE
or AT_BAR remaining time is at most that and a BEYOND one above it, and a VALUE one is not 0 (R62); the window lies about
the remaining time, from 0 to 2125 (R64). -/
def ForecastBounded : Forecast → Prop
  | .value _ rho a b _ => 1 ≤ rho ∧ rho ≤ 1800 ∧ a ≤ rho ∧ rho ≤ b ∧ b ≤ 2125
  | .atBar _ rho a b _ => rho ≤ 1800 ∧ a ≤ rho ∧ rho ≤ b ∧ b ≤ 2125
  | .beyond _ rho _ => 300 < rho
  | .indefinite _ => True

/-- The amount of a stored decision, where its kind has one, is 10 to 400 (R40, R74). -/
def DecisionBounded (d : Decision) : Prop :=
  match d.kind with
  | .extend n _ => 10 ≤ n ∧ n ≤ 400
  | .advance n _ => 10 ≤ n ∧ n ≤ 400
  | _ => True

/-- The policy items and the plan that an evaluation has read are in the ranges its results rest on (R21, R164). -/
def ReadsBounded (r : Reads) : Prop :=
  (300 ≤ r.horizon ∧ r.horizon ≤ 1800) ∧ r.guardTime ≤ 100 ∧ 10 ≤ r.minGrant
    ∧ ∀ p ∈ r.plan, ∀ st ∈ p.steps, st.maxExtension ≤ 400 ∧ st.maxAdvance ≤ 400

/-- The results of every record are in R40's ranges, and the score of a record not of class 3 is 0 to 1022 (R42). An
evaluation in flight has read values in their ranges, and class 3 only of a record that still has it or is marked as
restated. -/
def ResultsBounded (s : State) : Prop :=
  (∀ i : SlotId, ∀ r ∈ recordAt s i, (r.cls ≠ .forced → r.score ≤ 1022)
    ∧ (∀ f ∈ r.forecast, ForecastBounded f) ∧ ∀ d ∈ r.decision, DecisionBounded d)
  ∧ ∀ f ∈ s.flight, ReadsBounded f.reads
    ∧ ∀ r ∈ recordAt s f.slot, (slotAt s f.slot).generation = f.generation → r.changedInFlight = false →
        f.reads.cls = .forced → r.cls = .forced

/-- A slot that is vacated while its evaluation is in flight does not come back to the generation that was read: that
takes 256 retirements, "far more than can fall within one evaluation" (R37; the step does not bound it, log 4). -/
def GenerationsApart (s : State) : Prop :=
  ∀ f ∈ s.flight, recordAt s f.slot = none → (slotAt s f.slot).generation ≠ f.generation

/-- "The evaluation queue holds only occupied slots, each at most once, and so never more than 96 entries" (R91); and
the changed-in-flight flag is set only while the slot's evaluation is in flight (R41, R94). -/
def QueueSound (s : State) : Prop :=
  s.evalQueue.Nodup ∧ s.evalQueue.length ≤ 96 ∧ (∀ i ∈ s.evalQueue, (recordAt s i).isSome = true)
    ∧ ∀ i : SlotId, ∀ r ∈ recordAt s i, r.changedInFlight = true → inFlight s i = true

/-- "No two occupied request slots hold records with the same vehicle and junction" (R38). -/
def KeysDiffer (s : State) : Prop :=
  ∀ i k : SlotId, ∀ r ∈ recordAt s i, ∀ q ∈ recordAt s k, r.vehicle = q.vehicle → r.junction = q.junction → i = k

/-- A junction's candidate order "holds exactly its records in CANDIDATE state", none twice (R85), and every candidate
holds a stored decision of EXTEND or ADVANCE (R80). -/
def OrdersExact (s : State) : Prop :=
  (∀ j : JunctionId, (junctionAt s j).candidates.Nodup
    ∧ ∀ i : SlotId, i ∈ (junctionAt s j).candidates ↔ ∃ r ∈ recordAt s i, r.junction = j ∧ r.status = .candidate)
  ∧ ∀ i : SlotId, ∀ r ∈ recordAt s i, r.status = .candidate →
      ((r.decision.map Decision.kind).bind grantOf).isSome = true

/-- Record r in slot i stands before record q in slot k in a candidate order: the higher score, then the earlier check-in
time by R2, then the lower slot (R85). -/
def RanksAbove (i k : SlotId) (r q : Record) : Prop :=
  q.score < r.score
    ∨ (q.score = r.score ∧ (timeDiff r.checkInTime q.checkInTime < 0 ∨ (r.checkInTime = q.checkInTime ∧ i < k)))

/-- Every candidate order is "sorted by score descending, then check-in time ascending, then slot ascending" (R85). -/
def OrdersSorted (s : State) : Prop :=
  ∀ j : JunctionId, (junctionAt s j).candidates.Pairwise fun i k =>
    ∃ r ∈ recordAt s i, ∃ q ∈ recordAt s k, RanksAbove i k r q

/-- No check-in time is later than now, or so old that R2 takes it for later: "every interval the part computes or stores
is shorter than 2^31 ds" (R2). -/
def CheckInsRecent (s : State) : Prop := ∀ i : SlotId, ∀ r ∈ recordAt s i, 0 ≤ timeDiff s.time r.checkInTime

/-- The holder of a junction's grant "is the one record in GRANTED state for that junction" (R104); an offer has its
directive outstanding under the grant tag, and an accepted grant has none outstanding (R108, R111, R122). -/
def GrantsHeld (s : State) : Prop :=
  (∀ j : JunctionId, ∀ g ∈ (junctionAt s j).grant,
    ∃ r ∈ recordAt s g.slot, r.junction = j ∧ (slotAt s g.slot).generation = g.generation
      ∧ ∃ tag ∈ tagOf r.status,
          (junctionAt s j).outstanding =
            if g.accepted then none else some { kind := outstandingOf g.kind, tag := tag })
  ∧ (∀ i : SlotId, ∀ r ∈ recordAt s i, ∀ tag ∈ tagOf r.status,
      ∃ g ∈ (junctionAt s r.junction).grant, g.slot = i)

/-- The grant step of every grant is a step of its junction's active plan, and its amount is 10 to 400 (R104). -/
def GrantsBounded (s : State) : Prop :=
  ∀ j : JunctionId, ∀ g ∈ (junctionAt s j).grant,
    g.step < (activeSteps (junctionAt s j)).length ∧ 10 ≤ g.amount ∧ g.amount ≤ 400

/-- A DARK junction has no grant, no outstanding directive, and no CANDIDATE, GRANTED or RIDING record (R81, R122); a
LIVE one has COORD as its local mode (R9). -/
def DarkHoldsNothing (s : State) : Prop :=
  (∀ j : JunctionId, isLive (junctionAt s j) = false →
    (junctionAt s j).grant = none ∧ (junctionAt s j).outstanding = none
      ∧ ∀ i : SlotId, ∀ r ∈ recordAt s i, r.junction = j → seeksGrant r = false)
  ∧ ∀ j : JunctionId, isLive (junctionAt s j) = true → (junctionAt s j).localMode = some .coord

/-- The request table, the candidate orders and the grants agree (R38, R80, R81, R85, R104). -/
def TableConsistent (s : State) : Prop := KeysDiffer s ∧ OrdersExact s ∧ GrantsHeld s ∧ DarkHoldsNothing s

/-! ### The directive queue -/

/-- The entries of a junction whose kind is a RELEASE, or is not. -/
def entriesOf (s : State) (j : JunctionId) (release : Bool) : List Directive :=
  s.directives.filter fun d => decide (d.junction = j) && (isRelease d.kind == release)

/-- "At most one entry is SENDING at a time" (R155), exactly while the transmitter is BUSY, and none waits while it is
IDLE (R157). "For each junction at most one grant-or-trim directive is queued or outstanding and at most one RELEASE is
queued", which the release queued flag tells (R118, R155); a WAITING grant-or-trim entry is the outstanding directive;
and an accept deadline is present only after the directive has been sent (R104). -/
def DirectivesSound (s : State) : Prop :=
  s.directives.length ≤ 32
    ∧ (s.directives.filter Directive.sending).length = (if s.transmitter.isSome then 1 else 0)
    ∧ (s.transmitter = none → s.directives = [])
    ∧ ∀ j : JunctionId,
        (entriesOf s j true).length = (if (junctionAt s j).releaseQueued then 1 else 0)
          ∧ (entriesOf s j false).length ≤ 1
          ∧ (∀ d ∈ entriesOf s j false, d.sending = false →
              (junctionAt s j).outstanding.map Outstanding.tag = some d.tag)
          ∧ ((junctionAt s j).acceptDeadline.isSome = true →
              (junctionAt s j).outstanding.isSome = true ∧ entriesOf s j false = [])

/-- The junction link message a command hands over: a frame's own, or the one whose last check byte it is (R150,
R153). -/
def deliveredMsg (s : State) : Instr → Option JunctionMsg
  | .status j mode => some (.status j mode)
  | .cycleStart j count planId => some (.cycleStart j count planId)
  | .phaseStart j phase => some (.phaseStart j phase)
  | .phaseEnd j phase => some (.phaseEnd j phase)
  | .passage j approach vehicle => some (.passage j approach vehicle)
  | .accept j tag => some (.accept j tag)
  | .decline j tag reason => some (.decline j tag reason)
  | .foreignJunctionFrame m => some m
  | .linkByteReceived .junction b false =>
    match s.junctionRx with
    | .receiving .check taken _ =>
      if taken.length ≠ takenLength taken + 2
          ∧ [byteAt taken (takenLength taken + 2), b] = le16 (crc16 (taken.take (takenLength taken + 2))) then
        junctionMsg (byteAt taken 1) ((taken.take (takenLength taken + 2)).drop 2)
      else none
    | _ => none
  | _ => none

/-- The tag and junction byte of an answer. -/
def answerOf : JunctionMsg → Option (Byte × Byte)
  | .accept j tag => some (j, tag)
  | .decline j tag _ => some (j, tag)
  | _ => none

/-- A command answers a directive that is still WAITING. "The answer can only follow the frame it answers" (R158), so
no controller sends it. -/
def AnswersUnsent (s : State) (c : Instr) : Prop :=
  ∃ a ∈ (deliveredMsg s c).bind answerOf, ∃ d ∈ s.directives,
    byteOf d.junction.val = a.1 ∧ d.tag = a.2 ∧ d.sending = false ∧ isRelease d.kind = false

/-! ### The frame assemblers -/

/-- An assembler has taken the bytes its phase has come through: nothing, the length, the length and a kind it fits,
or all of the body (R150). -/
def AssemblerSound (link : Link) : Assembler → Prop
  | .hunt => True
  | .receiving .length taken _ => taken = []
  | .receiving .kind taken _ => taken.length = 1
  | .receiving .body taken _ =>
    bodySize link (byteAt taken 1) = some (takenLength taken) ∧ 2 ≤ taken.length
      ∧ taken.length < takenLength taken + 2
  | .receiving .check taken _ =>
    bodySize link (byteAt taken 1) = some (takenLength taken)
      ∧ (taken.length = takenLength taken + 2 ∨ taken.length = takenLength taken + 3)

/-- Both assemblers are sound (R150). -/
def AssemblersSound (s : State) : Prop :=
  AssemblerSound .detection s.detectionRx ∧ AssemblerSound .junction s.junctionRx

/-! ### Frames -/

/-- The parts of the state that no rule of the request table, the junction contexts, the evaluation queue or the
directive queue writes. With `slots`, `junctions`, `evalQueue`, `directives`, `transmitter` and `notices` they are the
whole state. -/
structure Outside where
  time : Time
  segments : Vector (Option Segment) 32
  passages : List PassageEntry
  flight : Option Flight
  detectionRx : Assembler
  junctionRx : Assembler
  policy : Policy
  port : Port
  spiDriven : List Byte
  cursor : Option Cursor
  masterEnable : Bool
  freeCount : Nat
  pending : List Instr
  deriving DecidableEq, Repr

/-- Those parts of a state. -/
def outside (s : State) : Outside where
  time := s.time
  segments := s.segments
  passages := s.passages
  flight := s.flight
  detectionRx := s.detectionRx
  junctionRx := s.junctionRx
  policy := s.policy
  port := s.port
  spiDriven := s.spiDriven
  cursor := s.cursor
  masterEnable := s.masterEnable
  freeCount := s.freeCount
  pending := s.pending

/-- Every junction context but one is as it was. -/
def OtherJunctionsSame (j : JunctionId) (s t : State) : Prop := ∀ k, k ≠ j → junctionAt t k = junctionAt s k

/-- Every slot but one is as it was. -/
def OtherSlotsSame (i : SlotId) (s t : State) : Prop := ∀ k, k ≠ i → slotAt t k = slotAt s k

/-- The code of a local mode (R153, R162). -/
def modeNumber : LocalMode → Nat
  | .coord => 0
  | .free => 1
  | .flash => 2
  | .manual => 3

/-- The state as a valid frame of junction j finds it once its link is renewed (R7): the line's assembler in HUNT, the
liveness deadline at now + link timeout, and a DARK(LINK_LOST) junction whose link was not live at NO_PLAN or
LOCAL_MODE. -/
def heard (j : JunctionId) (s : State) : State :=
  onJunction j (fun c =>
      { c with
        liveness := some (timeAdd s.time s.policy.linkTimeout)
        sync :=
          if c.liveness = none ∧ c.sync = .dark .linkLost then
            .dark (if c.activePlan.isSome then .localMode else .noPlan)
          else c.sync })
    { s with junctionRx := .hunt }

/-- A queue with a slot placed in it: at the tail, unless it is already there (R91). -/
def queued (q : List SlotId) (i : SlotId) : List SlotId := if i ∈ q then q else q ++ [i]

/-- A queue with every slot of a group placed in it, in ascending slot order (R91, R92). -/
def queuedWhere (q : List SlotId) (p : SlotId → Bool) : List SlotId :=
  q ++ (List.finRange 96).filter fun i => p i && !q.contains i

/-- A slot holds a record of a junction. -/
def holdsRecordOf (s : State) (j : JunctionId) (i : SlotId) : Bool := (recordAt s i).any fun r => decide (r.junction = j)

/-- A slot holds a rider of a junction (R43). -/
def holdsRiderOf (s : State) (j : JunctionId) (i : SlotId) : Bool :=
  (recordAt s i).any fun r => decide (r.junction = j ∧ r.status = .riding)

/-- No grant, no outstanding directive, and no EXTEND, ADVANCE or TRIM entry of the junction SENDING (R106, R130). -/
def MayDirect (s : State) (j : JunctionId) : Prop :=
  (junctionAt s j).grant = none ∧ (junctionAt s j).outstanding = none
    ∧ ∀ d ∈ s.directives, d.junction = j → d.sending = true → d.kind = .release

/-- Junction j enters LIVE at a cycle start of plan p: R12's values, and its records enqueued. -/
def entered (j : JunctionId) (count : Byte) (p : Plan) (s : State) : State :=
  { onJunction j (fun c =>
      { c with
        sync := .live (timeAdd s.time (p.cycle + s.policy.debtLimit + s.policy.syncTolerance))
        lastCycleStart := some s.time
        cycleCount := count
        currentStep := some 0
        stepStart := some s.time
        adjustment := 0
        debt := 0
        lockout := 0 }) s with
    evalQueue := queuedWhere s.evalQueue (holdsRecordOf s j) }

/-- A record has a stored decision of EXTEND or ADVANCE. -/
def decidesGrant (r : Record) : Bool :=
  match r.decision.map Decision.kind with
  | some (.extend _ _) => true
  | some (.advance _ _) => true
  | _ => false

/-- The state a holder takes when its grant is handed back: CANDIDATE where its stored decision is EXTEND or ADVANCE,
otherwise TRACKING with the reason COVERED where the decision is NONE or absent, and else its name (R112). -/
def handedBackState (r : Record) : RecordState :=
  match r.decision.map Decision.kind with
  | some (.extend _ _) => .candidate
  | some (.advance _ _) => .candidate
  | some .far => .tracking .far
  | some .noSlack => .tracking .noSlack
  | some .notServed => .tracking .notServed
  | some .none => .tracking .covered
  | none => .tracking .covered

/-- The order and change count of a junction whose holder in slot i has been handed back in state t (R86, R89, R112). -/
def withHolder (t : State) (i : SlotId) (r : Record) (c : Junction) : Junction :=
  if decidesGrant r then
    { c with candidates := insertSorted t i c.candidates, changeCount := c.changeCount + 1 }
  else c

/-- The grant g of junction j has been handed back with a notice (R112, R113), the holder being r: the junction's grant,
outstanding directive and deadline are absent; the holder is placed, marked and enqueued; an unsent entry of the offer is
dropped (R156). -/
def HandedBack (j : JunctionId) (g : Grant) (r : Record) (n : Category) (s t : State) : Prop :=
  junctionAt t j =
      withHolder t g.slot r { junctionAt s j with grant := none, outstanding := none, acceptDeadline := none }
    ∧ OtherJunctionsSame j s t
    ∧ slotAt t g.slot =
        { slotAt s g.slot with record := some { r with status := handedBackState r, refreshWanted := true } }
    ∧ OtherSlotsSame g.slot s t
    ∧ t.evalQueue = queued s.evalQueue g.slot
    ∧ t.directives =
        s.directives.filter (fun d => !(decide (d.junction = j) && !d.sending && isGrantKind d.kind))
    ∧ t.transmitter = s.transmitter ∧ t.notices = (raise n s).notices ∧ outside t = outside s

/-- Commands run one after another, stopping at the first that gives no next state. -/
def runCommands : List Instr → State → Host.Outcome State Fault Refusal
  | [], s => .next s
  | c :: l, s =>
    match exec c s with
    | .next t => runCommands l t
    | .fault r => .fault r
    | .refused r => .refused r

/-- The bytes of a list, received on a link one after another without a UART error. -/
def received (link : Link) (bytes : List Byte) : List Instr := bytes.map fun b => .linkByteReceived link b false

/-- The command that a detection link message is. -/
def detectionCommand : DetectionMsg → Instr
  | .checkIn m => .checkIn m
  | .update m => .update m
  | .checkOut v j => .checkOut v j
  | .cancel v j => .cancel v j

/-- The command that a junction link message is. -/
def frameCommand : JunctionMsg → Instr
  | .status j mode => .status j mode
  | .cycleStart j count planId => .cycleStart j count planId
  | .phaseStart j phase => .phaseStart j phase
  | .phaseEnd j phase => .phaseEnd j phase
  | .passage j approach vehicle => .passage j approach vehicle
  | .accept j tag => .accept j tag
  | .decline j tag reason => .decline j tag reason

/-- The supervisor command that a row of the table carries, if it is one (R162). -/
def supervisorCommand : Instr → Option Command
  | .planStage b => some (.planStage b)
  | .planRead j k => some (.planRead j k)
  | .segmentSet b => some (.segmentSet b)
  | .segmentRead k => some (.segmentRead k)
  | .policySet b => some (.policySet b)
  | .policyRead => some .policyRead
  | .junctionQuery j => some (.junctionQuery j)
  | .junctionSuspend j => some (.junctionSuspend j)
  | .junctionResume j => some (.junctionResume j)
  | .recordLookup n => some (.recordLookup n)
  | .recordRetire n => some (.recordRetire n)
  | .recordForce n => some (.recordForce n)
  | .listStart j => some (.listStart j)
  | .listContinue => some .listContinue
  | .noticeRead => some .noticeRead
  | .noticeWriteEnablesSet m => some (.noticeWrite 0 1 m)
  | .noticeWriteEnablesClear m => some (.noticeWrite 0 2 m)
  | .noticeWritePendingSet m => some (.noticeWrite 1 1 m)
  | .noticeWritePendingClear m => some (.noticeWrite 1 2 m)
  | .noticeWriteMasterOn m => some (.noticeWrite 2 1 m)
  | .noticeWriteMasterOff m => some (.noticeWrite 2 2 m)
  | .noticeWriteRefused t a m => some (.noticeWrite t a m)
  | .corridorClear => some .corridorClear
  | _ => none

/-- A command that only reads: it changes nothing but the port (R24, R140, R163, R164, R166). -/
def readsOnly : Command → Bool
  | .planRead _ _ => true
  | .segmentRead _ => true
  | .policyRead => true
  | .junctionQuery _ => true
  | .noticeRead => true
  | _ => false

/-- The code of a command, by R162's table. -/
def commandNumber : Command → Byte
  | .planStage _ => 0x41#8
  | .planRead _ _ => 0x42#8
  | .segmentSet _ => 0x43#8
  | .segmentRead _ => 0x44#8
  | .policySet _ => 0x45#8
  | .policyRead => 0x46#8
  | .junctionQuery _ => 0x47#8
  | .junctionSuspend _ => 0x48#8
  | .junctionResume _ => 0x49#8
  | .recordLookup _ => 0x4A#8
  | .recordRetire _ => 0x4B#8
  | .recordForce _ => 0x4C#8
  | .listStart _ => 0x4D#8
  | .listContinue => 0x4E#8
  | .noticeRead => 0x4F#8
  | .noticeWrite _ _ _ => 0x50#8
  | .corridorClear => 0x51#8

/-- The body length of a command, by R162's table. -/
def commandLength : Command → Nat
  | .planStage _ => 93
  | .planRead _ _ => 2
  | .segmentSet _ => 11
  | .segmentRead _ => 1
  | .policySet _ => 23
  | .policyRead => 0
  | .junctionQuery _ => 1
  | .junctionSuspend _ => 1
  | .junctionResume _ => 1
  | .recordLookup _ => 6
  | .recordRetire _ => 6
  | .recordForce _ => 6
  | .listStart _ => 1
  | .listContinue => 0
  | .noticeRead => 0
  | .noticeWrite _ _ _ => 4
  | .corridorClear => 0

/-- The number of a response code (R162). -/
def responseNumber : ResponseCode → Byte
  | .ok => 0
  | .badField => 1
  | .noRecord => 2
  | .notAllowed => 3
  | .listStale => 4
  | .badJunction => 5

/-- A state as a command taken in state s leaves it with an answer: the port EXECUTING with the response, and 0x00 driven
for every byte of its frame (R160). -/
def taken (s : State) (c : Command) (code : ResponseCode) (result : List Byte) (t : State) : State :=
  { t with
    port := .executing { kind := commandNumber c, code := code, result := result } s.time
    spiDriven := List.replicate (commandLength c + 5) 0 }

/-- The port takes no command: it is EXECUTING one (R160). -/
def Busy (s : State) : Prop := ∃ r since, s.port = .executing r since

/-! ### Requests (chapter 3) -/

/-- A CHECK_IN passes R44's five checks, naming junction j and approach q. -/
def Admits (s : State) (m : CheckInMsg) (j : JunctionId) (q : Fin 4) : Prop :=
  (1 ≤ m.vehicle.toNat ∧ m.vehicle.toNat ≤ 65534) ∧ m.junction.toNat = j.val
    ∧ (junctionAt s j).activePlan.isSome = true ∧ m.approach.toNat = q.val
    ∧ (priorityOf (junctionAt s j) q).isSome = true

/-- A record with the reported fields of a CHECK_IN, brought into their ranges (R45). -/
def withReport (m : CheckInMsg) (q : Fin 4) (r : Record) : Record :=
  { r with
    approach := q
    cls := if m.cls = 0#8 then .schedule else if m.cls = 1#8 then .late else .headway
    sequence := m.sequence
    distance := min m.distance.toNat 4000
    speed := if m.speed = 0xFFFF#16 then none else some (min m.speed.toNat 300)
    dwell := m.dwell.map fun w => min w.toNat 1200
    deviation := m.deviation.map fun d => max (-600) (min 600 d.toInt)
    occupancy := m.occupancy.map fun o => min o.toNat 150 }

/-- A record with the fields an UPDATE carries in place of its own, brought into their ranges (R45, R49). -/
def withUpdate (m : UpdateMsg) (r : Record) : Record :=
  { r with
    sequence := m.sequence
    distance := match m.distance with
      | some d => min d.toNat 4000
      | none => r.distance
    speed := match m.speed with
      | some v => if v = 0xFFFF#16 then none else some (min v.toNat 300)
      | none => r.speed
    dwell := match m.dwell with
      | some w => some (min w.toNat 1200)
      | none => r.dwell
    deviation := match m.deviation with
      | some d => some (max (-600) (min 600 d.toInt))
      | none => r.deviation
    occupancy := match m.occupancy with
      | some o => some (min o.toNat 150)
      | none => r.occupancy }

/-- A slot holds the record of a key (R38). -/
def HoldsKey (s : State) (i : SlotId) (v : Half) (j : Byte) : Prop :=
  ∃ r ∈ recordAt s i, r.vehicle = v ∧ r.junction.val = j.toNat

/-- A slot as its retirement leaves it: the next generation, vacant (R37, R56). -/
def vacated (sl : Slot) : Slot := { generation := sl.generation + 1, record := none }

/-! ### Evaluations (chapters 2, 4 and 5) -/

/-- t is ceiling(x / y) (00_scope.md 1.5). -/
def IsCeiling (t x y : Nat) : Prop := x ≤ t * y ∧ t * y < x + y

/-- The travel time of a record and its source, by the summary table of R60. -/
def TravelTime (r : Reads) (tau : Nat) (src : Source) : Prop :=
  (r.distance = 0 ∧ tau = 0 ∧ src = .speed)
    ∨ (0 < r.distance ∧ src = .speed ∧ ∃ v ∈ r.speed, 20 ≤ v ∧ IsCeiling tau (100 * r.distance) v)
    ∨ (0 < r.distance ∧ src = .segment ∧ (∀ v ∈ r.speed, v < 20)
      ∧ ∃ g ∈ r.segment, g.usable = true ∧ IsCeiling tau (g.estimate * r.distance) g.length)

/-- The decision d that a need n gets from a slack s, with `mk` the kind sought: the five rows of R73. -/
def Sought (r : Reads) (mk : Nat → Bool → DecisionKind) (n s : Nat) (d : DecisionKind) : Prop :=
  (n ≤ s → r.minGrant ≤ n → d = mk n false)
    ∧ (n ≤ s → n < r.minGrant → r.minGrant ≤ s → d = mk r.minGrant false)
    ∧ (n ≤ s → n < r.minGrant → s < r.minGrant → d = .noSlack)
    ∧ (s < n → r.partials = true → r.minGrant ≤ s → d = mk s true)
    ∧ (s < n → (r.partials = false ∨ s < r.minGrant) → d = .noSlack)

/-- The donors' part of a step that has not started: its split above its minimum green, nothing if it is protected
(R31). -/
def stepYield (st : PlanStep) : Nat := if st.guarded then 0 else st.split - st.minGreen

/-- The state R80's table gives, row by row. `live` is the sync state and `riding` R82's test at completion, `cls` the
class at completion, and the rest what the evaluation read and worked out. -/
def stateByRows (o : EvalOutcome) (live riding : Bool) (cls : PriorityClass) (r : Reads) (score : Nat) : RecordState :=
  if o = .indefinite then .held .indefinite
  else if o = .dark ∨ live = false then .held .junctionDark
  else if o = .beyond then .tracking .beyond
  else if o = .far then .tracking .far
  else if o = .notServed then .tracking .notServed
  else if o = .none then (if riding then .riding else .tracking .covered)
  else if o = .noSlack then .tracking .noSlack
  else if cls ≠ .forced ∧ r.deviation.getD 0 < -(r.early : Int) then .tracking .early
  else if cls ≠ .forced ∧ 0 < r.lockout then .tracking .lockout
  else if cls ≠ .forced ∧ score < r.threshold then .tracking .lowScore
  else .candidate

/-- A junction's grant is accepted and stands on a step (R82). -/
def AcceptedOn (c : Junction) (phi : Option Nat) : Prop := ∃ g ∈ c.grant, g.accepted = true ∧ some g.step = phi

/-- An evaluation read an accepted grant (R82, R115). -/
def ReadAccepted (r : Reads) : Prop := ∃ g ∈ r.grant, g.mode = .extending ∨ g.mode = .advancing

/-- The order and change count of a junction after a record in slot i takes a state (R84). `sorted` is the state whose
records the order is sorted by. -/
def orderAfter (sorted : State) (i : SlotId) (before : Record) (after : RecordState) (score : Nat) (c : Junction) :
    Junction :=
  if before.status = .candidate then
    if after = .candidate then
      if before.score = score then c
      else { c with candidates := insertSorted sorted i (c.candidates.erase i), changeCount := c.changeCount + 1 }
    else { c with candidates := c.candidates.erase i, changeCount := c.changeCount + 1 }
  else if after = .candidate then
    { c with candidates := insertSorted sorted i c.candidates, changeCount := c.changeCount + 1 }
  else c

/-- The record with the results of an evaluation stored (R98): the forecast, the decision by R75's paths, the score by
R78, and the refresh-wanted flag cleared. -/
def withResults (f : Flight) (r : Record) : Record :=
  { r with
    forecast := some (forecastOf f.reads f.te)
    decision := match (decisionOf f.reads f.te).1 with
      | .clear => none
      | .keep => r.decision
      | .store d => some d
    score := if r.cls = .forced then 1023 else scoreOf f.reads (decisionOf f.reads f.te).2
    refreshWanted := false }

/-! ### Grants (chapter 7) -/

/-- A slot holds a record tied to a segment (R147): its junction's active plan feeds its approach from the segment, and its
stored forecast has source SEGMENT or its state is HELD(INDEFINITE). -/
def holdsTied (s : State) (k : SegmentId) (i : SlotId) : Bool :=
  (recordAt s i).any fun r =>
    decide (feedingOf (junctionAt s r.junction) r.approach = some k)
      && (decide (r.forecast.bind sourceOf = some .segment) || decide (r.status = .held .indefinite))

/-- What a RELEASE of an accepted grant takes from or gives to the cycle adjustment (R15's last two rows): the unused
part of an extension off, an advance back whole. -/
def giveBack (now : Time) (c : Junction) (g : Grant) : Int :=
  match g.kind with
  | .advance => (g.amount : Int)
  | .extend =>
    match c.currentStep, c.stepStart, (activeSteps c)[g.step]? with
    | some k, some t, some st =>
      if k = g.step then
        -((g.amount : Int) - min (g.amount : Int) (max 0 (timeDiff now (timeAdd t st.split))))
      else -(g.amount : Int)
    | _, _, _ => -(g.amount : Int)

/-- A cycle adjustment changed, held to -1200 to +1200 (R15). -/
def adjusted (a d : Int) : Int := max (-1200) (min 1200 (a + d))

/-- The directive queue and the transmitter after a RELEASE with a tag is queued for a junction (R118, R156). -/
def ReleaseJoins (now : Time) (j : JunctionId) (tag : Byte) (s t : State) : Prop :=
  if (junctionAt s j).releaseQueued then
    t.directives = s.directives.map (fun d => if d.junction = j ∧ d.kind = .release then { d with tag := tag } else d)
      ∧ t.transmitter = s.transmitter
  else
    t.directives = (queueDirective now j .release tag s).directives
      ∧ t.transmitter = (queueDirective now j .release tag s).transmitter

/-! ### What the rules of a junction speak of -/

/-- A candidate is passed over by the issue check of junction j: the lockout holds it back, or its decision is stale
(R107). -/
def PassedOver (now : Time) (j : JunctionId) (s : State) (r : Record) : Prop :=
  (0 < (junctionAt s j).lockout ∧ r.cls ≠ .forced) ∨ r.refreshWanted = true
    ∨ ∀ d ∈ r.decision, (s.policy.decisionLife : Int) < timeDiff now d.time

/-- A RELEASE with a tag stands in the directive queue for a junction. -/
def ReleaseQueued (s : State) (j : JunctionId) (tag : Byte) : Prop :=
  ∃ d ∈ s.directives, d.junction = j ∧ d.kind = .release ∧ d.tag = tag

/-- A LIVE junction has gone DARK at a time, with R19's and R122's effects: the reason is set and the position frozen;
the grant, the outstanding directive, its deadline and every candidate are gone; JUNCTION_DARK is raised once; the
WAITING directives but a RELEASE are dropped; and CANDIDATE, GRANTED and RIDING records are held. Everything else stays,
but for the local mode and the liveness deadline, which the rule that sends the junction DARK speaks of. -/
def WentDark (now : Time) (j : JunctionId) (reason : DarkReason) (s t : State) : Prop :=
  (let c := junctionAt s j
   let d := junctionAt t j
   { d with localMode := c.localMode, liveness := c.liveness } =
     { c with
       sync := .dark reason
       frozenPosition := ((c.lastCycleStart.map fun t0 => (timeDiff now t0).toNat).getD c.frozenPosition)
       grant := none
       outstanding := none
       acceptDeadline := none
       candidates := []
       changeCount := c.changeCount + byteOf c.candidates.length })
  ∧ t.notices = (raise .junctionDark s).notices
  ∧ t.directives =
      s.directives.filter (fun d => !(decide (d.junction = j) && !d.sending && !isRelease d.kind))
  ∧ (∀ i, (slotAt t i).generation = (slotAt s i).generation
      ∧ recordAt t i = (recordAt s i).map fun r =>
          if r.junction = j ∧ seeksGrant r = true then { r with status := .held .junctionDark } else r)
  ∧ OtherJunctionsSame j s t ∧ t.evalQueue = s.evalQueue ∧ t.transmitter = s.transmitter ∧ outside t = outside s

/-! ### Layouts (R149, R153, R162, R164) -/

/-- The number that bytes make, low byte first (R149). -/
def valueOf (l : List Byte) : Nat := l.foldr (fun b k => b.toNat + 256 * k) 0

/-- The n bytes of a list from an offset on hold a number: "little-endian", a signed one "in two's complement" (R149). -/
def Field (l : List Byte) (offset n : Nat) (v : Int) : Prop :=
  offset + n ≤ l.length ∧ (valueOf ((l.drop offset).take n) : Int) = v % 256 ^ n

/-- The parts of a frame on a line, with its kind and the size of its body (R149). -/
def FrameParts (l : List Byte) (kind : Byte) (size : Nat) : Prop :=
  l.length = size + 5 ∧ Field l 0 1 0xA5 ∧ Field l 1 1 size ∧ Field l 2 1 kind.toNat
    ∧ Field l (size + 3) 2 (crc16 ((l.drop 1).take (size + 2))).toNat

/-- An optional field: its presence bit tells whether it is there, and its bytes hold it where it is (R152). -/
def FieldIf (l : List Byte) (presence : Byte) (bit offset n : Nat) (x : Option Nat) : Prop :=
  presence.getLsbD bit = x.isSome ∧ ∀ v, x = some v → Field l offset n v

/-- The code, length and fields of a detection link message, by R152's table. -/
def DetectionLayout (kind : Byte) (l : List Byte) : DetectionMsg → Prop
  | .checkIn m =>
    kind = 0x11#8 ∧ l.length = 16 ∧ Field l 0 2 m.vehicle.toNat ∧ Field l 2 1 m.junction.toNat
      ∧ Field l 3 1 m.approach.toNat ∧ Field l 4 1 m.cls.toNat ∧ Field l 5 1 m.sequence.toNat
      ∧ Field l 7 2 m.distance.toNat ∧ Field l 9 2 m.speed.toNat
      ∧ ∃ p : Byte, Field l 6 1 p.toNat ∧ FieldIf l p 0 11 2 (m.dwell.map BitVec.toNat)
        ∧ FieldIf l p 1 13 2 (m.deviation.map BitVec.toNat) ∧ FieldIf l p 2 15 1 (m.occupancy.map BitVec.toNat)
  | .update m =>
    kind = 0x12#8 ∧ l.length = 14 ∧ Field l 0 2 m.vehicle.toNat ∧ Field l 2 1 m.junction.toNat
      ∧ Field l 3 1 m.sequence.toNat
      ∧ ∃ p : Byte, Field l 4 1 p.toNat ∧ FieldIf l p 0 5 2 (m.distance.map BitVec.toNat)
        ∧ FieldIf l p 1 7 2 (m.speed.map BitVec.toNat) ∧ FieldIf l p 2 9 2 (m.dwell.map BitVec.toNat)
        ∧ FieldIf l p 3 11 2 (m.deviation.map BitVec.toNat) ∧ FieldIf l p 4 13 1 (m.occupancy.map BitVec.toNat)
  | .checkOut v j => kind = 0x13#8 ∧ l.length = 3 ∧ Field l 0 2 v.toNat ∧ Field l 2 1 j.toNat
  | .cancel v j => kind = 0x14#8 ∧ l.length = 3 ∧ Field l 0 2 v.toNat ∧ Field l 2 1 j.toNat

/-- The code, length and fields of a message of the junction link's receive side, by R153's table. -/
def JunctionLayout (kind : Byte) (l : List Byte) : JunctionMsg → Prop
  | .status j mode => kind = 0x21#8 ∧ l.length = 2 ∧ Field l 0 1 j.toNat ∧ Field l 1 1 mode.toNat
  | .cycleStart j count planId =>
    kind = 0x22#8 ∧ l.length = 3 ∧ Field l 0 1 j.toNat ∧ Field l 1 1 count.toNat ∧ Field l 2 1 planId.toNat
  | .phaseStart j phase => kind = 0x23#8 ∧ l.length = 2 ∧ Field l 0 1 j.toNat ∧ Field l 1 1 phase.toNat
  | .phaseEnd j phase => kind = 0x24#8 ∧ l.length = 2 ∧ Field l 0 1 j.toNat ∧ Field l 1 1 phase.toNat
  | .passage j approach vehicle =>
    kind = 0x25#8 ∧ l.length = 4 ∧ Field l 0 1 j.toNat ∧ Field l 1 1 approach.toNat ∧ Field l 2 2 vehicle.toNat
  | .accept j tag => kind = 0x26#8 ∧ l.length = 2 ∧ Field l 0 1 j.toNat ∧ Field l 1 1 tag.toNat
  | .decline j tag reason =>
    kind = 0x27#8 ∧ l.length = 3 ∧ Field l 0 1 j.toNat ∧ Field l 1 1 tag.toNat ∧ Field l 2 1 reason.toNat

/-- The codes and body lengths a link's receive side knows (R152, R153). -/
def linkKinds : Link → List (Byte × Nat)
  | .detection => [(0x11#8, 16), (0x12#8, 14), (0x13#8, 3), (0x14#8, 3)]
  | .junction => [(0x21#8, 2), (0x22#8, 3), (0x23#8, 2), (0x24#8, 2), (0x25#8, 4), (0x26#8, 2), (0x27#8, 3)]

/-- The frame of a directive: EXTEND 0x31, ADVANCE 0x32, TRIM 0x33 or RELEASE 0x34, with the junction, the tag and the
fields of its kind (R153). -/
def DirectiveLayout (d : Directive) (l : List Byte) : Prop :=
  Field l 3 1 d.junction.val ∧ Field l 4 1 d.tag.toNat
    ∧ match d.kind with
      | .extend phase amount => FrameParts l 0x31 5 ∧ Field l 5 1 phase ∧ Field l 6 2 amount
      | .advance phase amount => FrameParts l 0x32 5 ∧ Field l 5 1 phase ∧ Field l 6 2 amount
      | .trim amount => FrameParts l 0x33 4 ∧ Field l 5 2 amount
      | .release => FrameParts l 0x34 2

/-- The fields of a PLAN_STAGE body, by R162: five bytes, eight step entries of ten and four approach map entries of two. -/
def PlanBodyLayout (b : PlanBody) (l : List Byte) : Prop :=
  Field l 0 1 b.junction.toNat ∧ Field l 1 1 b.planId.toNat ∧ Field l 2 2 b.cycle.toNat ∧ Field l 4 1 b.count.toNat
    ∧ (∀ k : Fin 8,
        (let o := 5 + 10 * k.val
         let st := b.steps[k]
         Field l o 1 st.phase.toNat ∧ Field l (o + 1) 2 st.split.toNat ∧ Field l (o + 3) 2 st.minGreen.toNat
           ∧ Field l (o + 5) 1 st.guarded.toNat ∧ Field l (o + 6) 2 st.maxExtension.toNat
           ∧ Field l (o + 8) 2 st.maxAdvance.toNat))
    ∧ ∀ q : Fin 4, Field l (85 + 2 * q.val) 1 b.approaches[q].priority.toNat
        ∧ Field l (86 + 2 * q.val) 1 b.approaches[q].feeding.toNat

/-- The PLAN_STAGE body of a plan as PLAN_READ returns it, "with steps beyond n sent as 0" (R162). -/
def PlanLayout (j : JunctionId) (p : Plan) (l : List Byte) : Prop :=
  l.length = 93 ∧ Field l 0 1 j.val ∧ Field l 1 1 p.planId.toNat ∧ Field l 2 2 p.cycle ∧ Field l 4 1 p.steps.length
    ∧ (∀ (k : Fin 8) (st : PlanStep), p.steps[k.val]? = some st →
        (let o := 5 + 10 * k.val
         Field l o 1 st.phase ∧ Field l (o + 1) 2 st.split ∧ Field l (o + 3) 2 st.minGreen
           ∧ Field l (o + 5) 1 (if st.guarded then 1 else 0) ∧ Field l (o + 6) 2 st.maxExtension
           ∧ Field l (o + 8) 2 st.maxAdvance))
    ∧ (∀ k : Fin 8, p.steps.length ≤ k.val → Field l (5 + 10 * k.val) 10 0)
    ∧ ∀ q : Fin 4, Field l (85 + 2 * q.val) 1 (p.approaches[q].priority.elim 0xFF fun k => k)
        ∧ Field l (86 + 2 * q.val) 1 (p.approaches[q].feeding.elim 0xFF fun k => k.val)

/-- The fields of a POLICY_SET body, in the order and the sizes of R164's table. -/
def PolicyBodyLayout (b : PolicyBody) (l : List Byte) : Prop :=
  Field l 0 2 b.horizon.toNat ∧ Field l 2 1 b.guardTime.toNat ∧ Field l 3 2 b.early.toNat ∧ Field l 5 2 b.threshold.toNat
    ∧ Field l 7 1 b.minGrant.toNat ∧ Field l 8 1 b.partials.toNat ∧ Field l 9 1 b.decisionLife.toNat
    ∧ Field l 10 2 b.debtLimit.toNat ∧ Field l 12 1 b.recoveryRate.toNat ∧ Field l 13 1 b.lockoutCycles.toNat
    ∧ Field l 14 2 b.recordLifetime.toNat ∧ Field l 16 1 b.acceptTimeout.toNat ∧ Field l 17 1 b.linkTimeout.toNat
    ∧ Field l 18 1 b.syncTolerance.toNat ∧ Field l 19 2 b.passageLifetime.toNat ∧ Field l 21 2 b.staleTime.toNat

/-- The fields of a body that names a record (R162). -/
def NameLayout (n : RecordName) (l : List Byte) : Prop :=
  Field l 0 1 n.mode.toNat ∧ Field l 1 2 n.vehicle.toNat ∧ Field l 3 1 n.junction.toNat ∧ Field l 4 1 n.slot.toNat
    ∧ Field l 5 1 n.generation.toNat

/-- The code, length and body fields of a command, by R162's table. -/
def CommandLayout (kind : Byte) (l : List Byte) (c : Command) : Prop :=
  kind = commandNumber c ∧ l.length = commandLength c
    ∧ match c with
      | .planStage b => PlanBodyLayout b l
      | .planRead j slot => Field l 0 1 j.toNat ∧ Field l 1 1 slot.toNat
      | .segmentSet b =>
        Field l 0 1 b.segment.toNat ∧ Field l 1 1 b.source.toNat ∧ Field l 2 1 b.target.toNat ∧ Field l 3 2 b.length.toNat
          ∧ Field l 5 2 b.tmin.toNat ∧ Field l 7 2 b.tcap.toNat ∧ Field l 9 2 b.tnom.toNat
      | .segmentRead k => Field l 0 1 k.toNat
      | .policySet b => PolicyBodyLayout b l
      | .policyRead => True
      | .junctionQuery j => Field l 0 1 j.toNat
      | .junctionSuspend j => Field l 0 1 j.toNat
      | .junctionResume j => Field l 0 1 j.toNat
      | .recordLookup n => NameLayout n l
      | .recordRetire n => NameLayout n l
      | .recordForce n => NameLayout n l
      | .listStart j => Field l 0 1 j.toNat
      | .listContinue => True
      | .noticeRead => True
      | .noticeWrite target action mask =>
        Field l 0 1 target.toNat ∧ Field l 1 1 action.toNat ∧ Field l 2 2 mask.toNat
      | .corridorClear => True

/-- The result of SEGMENT_READ: the state, the SEGMENT_SET fields, the estimate, the streak and the two times, the stale
deadline sent as 0 where it is absent (R162). -/
def SegmentLayout (k : SegmentId) (g : Segment) (l : List Byte) : Prop :=
  l.length = 23
    ∧ Field l 0 1 (match g.state with
      | .fresh _ => 1
      | .degraded _ => 2
      | .stale => 3)
    ∧ Field l 1 1 k.val ∧ Field l 2 1 g.source.val ∧ Field l 3 1 g.target.val ∧ Field l 4 2 g.length
    ∧ Field l 6 2 g.tmin ∧ Field l 8 2 g.tcap ∧ Field l 10 2 g.tnom ∧ Field l 12 2 g.estimate ∧ Field l 14 1 g.streak
    ∧ Field l 15 4 g.lastSample.toNat
    ∧ Field l 19 4 (match g.state with
      | .fresh d => d.toNat
      | .degraded d => d.toNat
      | .stale => 0)

/-- The result of LIST_START and LIST_CONTINUE: the remaining count, the change count, the number of entries, and six bytes
to an entry (R162). -/
def ListLayout (s : State) (remaining : Nat) (count : Byte) (entries : List SlotId) (l : List Byte) : Prop :=
  l.length = 3 + 6 * entries.length ∧ Field l 0 1 remaining ∧ Field l 1 1 count.toNat ∧ Field l 2 1 entries.length
    ∧ ∀ (n : Nat) (i : SlotId), entries[n]? = some i →
        (let o := 3 + 6 * n
         Field l o 1 i.val ∧ Field l (o + 1) 1 (slotAt s i).generation.toNat
           ∧ ∀ r, recordAt s i = some r → Field l (o + 2) 2 r.vehicle.toNat ∧ Field l (o + 4) 2 r.score)

/-- The sixteen items of R164's table as a POLICY_SET body holds them, in the order of the table. -/
def PolicyLayout (p : Policy) (l : List Byte) : Prop :=
  l.length = 23 ∧ Field l 0 2 p.horizon ∧ Field l 2 1 p.guardTime ∧ Field l 3 2 p.early ∧ Field l 5 2 p.threshold
    ∧ Field l 7 1 p.minGrant ∧ Field l 8 1 (if p.partials then 1 else 0) ∧ Field l 9 1 p.decisionLife
    ∧ Field l 10 2 p.debtLimit ∧ Field l 12 1 p.recoveryRate ∧ Field l 13 1 p.lockoutCycles
    ∧ Field l 14 2 p.recordLifetime ∧ Field l 16 1 p.acceptTimeout ∧ Field l 17 1 p.linkTimeout
    ∧ Field l 18 1 p.syncTolerance ∧ Field l 19 2 p.passageLifetime ∧ Field l 21 2 p.staleTime

/-- The codes of EXTEND and ADVANCE as a grant kind (R162). -/
def kindCode : GrantKind → Int
  | .extend => 0
  | .advance => 1

/-- The result of JUNCTION_QUERY, field by field, with the codes of R162 and those of absent parts. -/
def QueryLayout (now : Time) (c : Junction) (l : List Byte) : Prop :=
  l.length = 46
    ∧ Field l 0 1 (match c.sync with
      | .dark _ => 0
      | .live _ => 1)
    ∧ Field l 1 1 (match c.sync with
      | .dark .noPlan => 0
      | .dark .awaitingCycle => 1
      | .dark .linkLost => 2
      | .dark .localMode => 3
      | .dark .planMismatch => 4
      | .dark .noCycle => 5
      | .live _ => 0xFF)
    ∧ Field l 2 1 (c.localMode.elim 0xFF fun m => modeNumber m)
    ∧ Field l 3 1 (if c.liveness.isSome then 1 else 0)
    ∧ Field l 4 1 (c.activePlan.elim 0 fun p => p.planId.toNat) ∧ Field l 5 1 (c.stagedPlan.elim 0 fun p => p.planId.toNat)
    ∧ Field l 6 4 (c.lastCycleStart.elim 0 fun t => t.toNat)
    ∧ Field l 10 2 (match c.sync, c.lastCycleStart with
      | .live _, some t => max 0 (timeDiff now t)
      | _, _ => c.frozenPosition)
    ∧ Field l 12 1 c.cycleCount.toNat ∧ Field l 13 1 (c.currentStep.elim 0xFF fun k => k)
    ∧ Field l 14 4 (c.stepStart.elim 0 fun t => t.toNat) ∧ Field l 18 2 c.adjustment
    ∧ Field l 20 1 (c.grant.elim 0 fun g => if g.accepted then 2 + kindCode g.kind else 1)
    ∧ Field l 21 1 (c.grant.elim 0xFF fun g => g.slot.val) ∧ Field l 22 1 (c.grant.elim 0xFF fun g => g.generation.toNat)
    ∧ Field l 23 1 (c.grant.elim 0xFF fun g => g.step) ∧ Field l 24 1 (c.grant.elim 0xFF fun g => kindCode g.kind)
    ∧ Field l 25 2 (c.grant.elim 0 fun g => g.amount) ∧ Field l 27 4 (c.grant.elim 0 fun g => g.offerTime.toNat)
    ∧ Field l 31 2 c.debt ∧ Field l 33 1 c.lockout ∧ Field l 34 1 (if c.suspended then 1 else 0)
    ∧ Field l 35 1 c.candidates.length ∧ Field l 36 1 c.changeCount.toNat
    ∧ Field l 37 2 (c.lastServed.elim 0 fun m => m.vehicle.toNat)
    ∧ Field l 39 1 (c.lastServed.elim 0xFF fun m => kindCode m.kind)
    ∧ Field l 40 2 (c.lastServed.elim 0 fun m => m.amount) ∧ Field l 42 4 (c.lastServed.elim 0 fun m => m.arrival.toNat)

/-- The reported and bookkeeping fields of a RECORD_LOOKUP result, with the codes of R162. Nothing is said of the bytes of
an absent dwell, deviation, occupancy or grant tag (log 11). -/
def RecordLayout (i : SlotId) (sl : Slot) (r : Record) (l : List Byte) : Prop :=
  Field l 0 1 i.val ∧ Field l 1 1 sl.generation.toNat ∧ Field l 2 2 r.vehicle.toNat ∧ Field l 4 1 r.junction.val
    ∧ Field l 5 1 r.approach.val
    ∧ Field l 6 1 (match r.cls with
      | .schedule => 0
      | .late => 1
      | .headway => 2
      | .forced => 3)
    ∧ Field l 7 1 (match r.status with
      | .pending => 0
      | .tracking _ => 1
      | .candidate => 2
      | .granted _ => 3
      | .riding => 4
      | .held _ => 5)
    ∧ Field l 8 1 (match r.status with
      | .tracking .far => 0
      | .tracking .beyond => 1
      | .tracking .covered => 2
      | .tracking .early => 3
      | .tracking .lowScore => 4
      | .tracking .noSlack => 5
      | .tracking .lockout => 6
      | .tracking .notServed => 7
      | .held .indefinite => 8
      | .held .junctionDark => 9
      | _ => 0xFF)
    ∧ Field l 9 1 r.sequence.toNat
    ∧ (∃ b : Byte, l[10]? = some b ∧ b.getLsbD 0 = r.dwell.isSome ∧ b.getLsbD 1 = r.deviation.isSome
        ∧ b.getLsbD 2 = r.occupancy.isSome ∧ b.getLsbD 3 = r.forecast.isSome ∧ b.getLsbD 4 = r.decision.isSome
        ∧ b.getLsbD 5 = (tagOf r.status).isSome ∧ b.getLsbD 6 = r.changedInFlight ∧ b.getLsbD 7 = r.refreshWanted)
    ∧ Field l 11 2 r.distance ∧ Field l 13 2 (r.speed.elim 0xFFFF fun v => v)
    ∧ (∀ w, r.dwell = some w → Field l 15 2 w) ∧ (∀ d, r.deviation = some d → Field l 17 2 d)
    ∧ (∀ o, r.occupancy = some o → Field l 19 1 o)
    ∧ Field l 20 4 r.checkInTime.toNat ∧ Field l 24 4 r.lastMessage.toNat ∧ Field l 28 4 r.expiry.toNat
    ∧ Field l 54 2 r.score ∧ ∀ tag : Byte, r.status = .granted tag → Field l 56 1 tag.toNat

/-- The forecast and the decision of a RECORD_LOOKUP result, with the codes of R162 and those of absent parts. -/
def ResultLayout (r : Record) (l : List Byte) : Prop :=
  Field l 32 1 (match r.forecast with
      | some (.value _ _ _ _ _) => 0
      | some (.atBar _ _ _ _ _) => 1
      | some (.beyond _ _ _) => 2
      | some (.indefinite _) => 3
      | none => 0)
    ∧ Field l 33 4 (match r.forecast with
      | some (.value te _ _ _ _) => te.toNat
      | some (.atBar te _ _ _ _) => te.toNat
      | some (.beyond te _ _) => te.toNat
      | some (.indefinite te) => te.toNat
      | none => 0)
    ∧ Field l 37 4 (match r.forecast with
      | some (.value _ rho _ _ _) => rho
      | some (.atBar _ rho _ _ _) => rho
      | some (.beyond _ rho _) => rho
      | _ => 0xFFFFFFFF)
    ∧ Field l 41 2 ((r.forecast.bind windowOf).elim 0xFFFF fun w => w.1)
    ∧ Field l 43 2 ((r.forecast.bind windowOf).elim 0xFFFF fun w => w.2)
    ∧ Field l 45 1 (match r.forecast.bind sourceOf with
      | some .speed => 0
      | some .segment => 1
      | none => 0xFF)
    ∧ Field l 46 1 (match r.decision.map Decision.kind with
      | some .none => 0
      | some (.extend _ _) => 1
      | some (.advance _ _) => 2
      | some .far => 3
      | some .noSlack => 4
      | some .notServed => 5
      | none => 0)
    ∧ Field l 47 2 (match r.decision.map Decision.kind with
      | some (.extend n _) => n
      | some (.advance n _) => n
      | _ => 0)
    ∧ Field l 49 1 (match r.decision.map Decision.kind with
      | some (.extend _ p) => if p then 1 else 0
      | some (.advance _ p) => if p then 1 else 0
      | _ => 0xFF)
    ∧ Field l 50 4 (r.decision.elim 0 fun d => d.time.toNat)

/-- The result of NOTICE_READ: the pending mask and the enable mask by the categories' bit numbers, the master enable, and
the 12 counts (R162, R166). -/
def NoticeLayout (s : State) (l : List Byte) : Prop :=
  l.length = 17
    ∧ (∃ m : Half, Field l 0 2 m.toNat ∧ ∀ k : Fin 16, m.getLsbD k.val = (s.notices[k.val]?).any Notice.raised)
    ∧ (∃ m : Half, Field l 2 2 m.toNat ∧ ∀ k : Fin 16, m.getLsbD k.val = (s.notices[k.val]?).any Notice.enabled)
    ∧ Field l 4 1 (if s.masterEnable then 1 else 0) ∧ ∀ k : Fin 12, Field l (5 + k.val) 1 s.notices[k].count

/-! ### When events are taken -/

/-- A deadline has not been passed. -/
def Met (now : Time) (deadline : Option Time) : Prop := ∀ d ∈ deadline, timeDiff now d ≤ 0

/-- An evaluation start is due: the evaluator is IDLE and the queue holds an entry (R93). -/
def StartDue (s : State) : Prop := s.flight = none ∧ s.evalQueue ≠ []

/-- Every event has been taken in its bound: no deadline is passed (R3), an evaluation completes within 2 ds of its
start (R95), a sent event follows within 1 ds (R158) and a response within 1 ds of the take (R160); and the clock does
not tick while an evaluation start is due, so that the start "carries the same corridor time" as the enqueue or the
completion that made it possible (R93). The step does not enforce this (log 3, log 4). -/
def Timely (s : State) : Prop :=
  (∀ j : JunctionId, Met s.time (junctionAt s j).liveness ∧ Met s.time (limitOf (junctionAt s j))
    ∧ Met s.time (junctionAt s j).acceptDeadline)
  ∧ (∀ i : SlotId, Met s.time ((recordAt s i).map Record.expiry))
  ∧ (∀ e ∈ s.passages, Met s.time (some e.expiry))
  ∧ (∀ k : SegmentId, ∀ g ∈ segmentAt s k, Met s.time (staleDeadline g))
  ∧ Met s.time (gapOf s.detectionRx) ∧ Met s.time (gapOf s.junctionRx)
  ∧ (∀ f ∈ s.flight, timeDiff s.time f.te ≤ 2)
  ∧ (∀ x ∈ s.transmitter, timeDiff s.time x.since ≤ 1)
  ∧ (match s.port with
    | .executing _ since => timeDiff s.time since ≤ 1
    | _ => True)
  ∧ (s.pending.head? = some .corridorTimeTick → ¬StartDue s)

end Sys2Proof.Safety
end

