-- ==== Sys2Proof/Certificates/Slice0/Obligations.lean ====
section
/-! DEFINITION. The statements for the provers: what the rules of spec/ say the commands and the machine do. `now` is
the corridor time of the state a command is taken in, and for an expiry the deadline (R1). -/

section Statements

open Sys2Proof Sys2Proof.Machine Sys2Proof.Safety

/-! ### The machine -/

/-- A step takes the command at the front of the queue: it is `exec` of that command with the queue's rest; on an empty
queue the part idles (the model's queue: log 1, log 5). -/
def Obligations.StepRunsTheFrontCommand : Prop :=
  (∀ (c : Instr) (l : List Instr) (s : State), step { s with pending := c :: l } = exec c { s with pending := l })
    ∧ ∀ s : State, s.pending = [] → step s = .next s

/-- Every command has a next state in every state: no meaning stops. Only POWER_ON and the reference clock's tick change
corridor time: the tick advances the count by one, 4294967295 being followed by 0, and changes nothing else (it takes no
expiry, log 3); "CORRIDOR_CLEAR does not change it, and no supervisor command sets it" (R1). No command touches the queue of
commands, which is the model's own (log 18), POWER_ON included (log 19); and an event of the part is answered in every state,
due or not (log 2). Those three are the model's choices. R2 in numbers: a difference of two corridor times is the one from
-2^31 to 2^31 - 1 that is right modulo 2^32, and a time plus a duration is their sum modulo 2^32. -/
def Obligations.EveryCommandCompletesAndOnlyTheClockMovesTime : Prop :=
  (∀ (c : Instr) (s : State), ∃ t, exec c s = .next t ∧ t.pending = s.pending
    ∧ (c = .powerOn → t.time = 0) ∧ (c ≠ .powerOn → c ≠ .corridorTimeTick → t.time = s.time))
  ∧ (∀ s : State, ∃ t, exec .corridorTimeTick s = .next t
    ∧ t.time.toNat = (if s.time.toNat = 4294967295 then 0 else s.time.toNat + 1)
    ∧ { t with time := s.time } = s)
  ∧ (∀ t1 t2 : Time, -2147483648 ≤ timeDiff t1 t2 ∧ timeDiff t1 t2 ≤ 2147483647
    ∧ ∃ k : Int, timeDiff t1 t2 = (t1.toNat : Int) - t2.toNat + 4294967296 * k)
  ∧ ∀ (t : Time) (d : Nat), (timeAdd t d).toNat = (t.toNat + d) % 4294967296

/-- What the power-on rules give, from any state: every junction context (R5, R89, R105, R125), corridor time (R1), the
request table (R37), the evaluator (R103), the segment and passage tables (R138, R141), the links (R159), the port, the policy
at the sixteen defaults of R164's table, and the notice unit (R160, R165 to R167). -/
def Obligations.PowerOnSetsEveryBlock : Prop :=
  ∀ s : State, ∃ t, exec .powerOn s = .next t
    ∧ (∀ j : JunctionId, (let c := junctionAt t j
        c.sync = .dark .noPlan ∧ c.localMode = none ∧ c.activePlan = none ∧ c.stagedPlan = none ∧ c.liveness = none
          ∧ c.lastCycleStart = none ∧ positionAt t.time c = 0 ∧ c.cycleCount = 0 ∧ c.currentStep = none
          ∧ c.stepStart = none ∧ limitOf c = none ∧ c.adjustment = 0
          ∧ modeOf c = .idle ∧ c.grant = none ∧ c.tagCounter = 0 ∧ c.outstanding = none ∧ c.acceptDeadline = none
          ∧ c.releaseQueued = false ∧ c.suspended = false ∧ c.lastServed = none
          ∧ c.candidates = [] ∧ c.changeCount = 0 ∧ c.debt = 0 ∧ c.lockout = 0))
    ∧ t.time = 0 ∧ (∀ i : SlotId, slotAt t i = { generation := 0, record := none })
    ∧ t.evalQueue = [] ∧ t.flight = none ∧ (∀ k : SegmentId, segmentAt t k = none) ∧ t.passages = []
    ∧ t.detectionRx = .hunt ∧ t.junctionRx = .hunt ∧ t.directives = [] ∧ t.transmitter = none
    ∧ t.port = .idle ∧ rdy t = false ∧ t.cursor = none
    ∧ t.policy =
        { horizon := 1200, guardTime := 30, early := 60, threshold := 150, minGrant := 20, partials := true,
          decisionLife := 20, debtLimit := 300, recoveryRate := 60, lockoutCycles := 2, recordLifetime := 1800,
          acceptTimeout := 15, linkTimeout := 50, syncTolerance := 10, passageLifetime := 3000, staleTime := 6000 }
    ∧ (∀ k : Fin 12, t.notices[k] = { raised := false, count := 0, enabled := false }) ∧ t.masterEnable = false
    ∧ attn t = false

/-- The state right after reset meets every invariant that the statements below keep through every step. -/
def Obligations.ResetMeetsTheInvariants : Prop :=
  NoticesCounted State.reset ∧ RecoveryBounded State.reset ∧ ClocksSound State.reset ∧ SegmentsBounded State.reset
    ∧ PassagesBounded State.reset ∧ AssemblersSound State.reset ∧ RecordsBounded State.reset ∧ QueueSound State.reset
    ∧ ResultsBounded State.reset ∧ TableConsistent State.reset ∧ GrantsBounded State.reset ∧ OrdersSorted State.reset
    ∧ CheckInsRecent State.reset ∧ DirectivesSound State.reset ∧ Timely State.reset

/-! ### Invariants that every step keeps -/

/-- "A category's count is above 0 exactly while its flag is pending", and is 0 to 255 (R166), kept by every step. So are
the policy's ranges (R164) and those of every junction's debt, lockout (R125) and cycle adjustment (R15). -/
def Obligations.StepKeepsTheNoticesAndTheRecoveryStateInRange : Prop :=
  (∀ s t : State, NoticesCounted s → step s = .next t → NoticesCounted t)
    ∧ ∀ s t : State, RecoveryBounded s → step s = .next t → RecoveryBounded t

/-- Every plan held is sound, and a LIVE junction has all that its schedule walk needs (R7, R9, R12, R21, R22). -/
def Obligations.StepKeepsTheClocksSound : Prop :=
  ∀ s t : State, ClocksSound s → step s = .next t → ClocksSound t

/-- The ranges of the segment table and the passage table (R137, R138, R141), and the frame assemblers' phases (R150). -/
def Obligations.StepKeepsTheTablesAndAssemblersInRange : Prop :=
  ∀ s t : State, SegmentsBounded s → PassagesBounded s → AssemblersSound s → step s = .next t →
    SegmentsBounded t ∧ PassagesBounded t ∧ AssemblersSound t

/-- The ranges of every record's reported fields and score (R39, R40, R42), the evaluation queue's promises (R91) and the
changed-in-flight flag's (R41), kept by every step. So are the ranges of its results: the forecast's remaining time and
window and the decision's amount (R40), and a score of 0 to 1022 for a record not of class 3 (R42), where the policy and the
plans are in their ranges and no slot's generation comes round while its evaluation is in flight (R37). -/
def Obligations.StepKeepsTheRecordsAndTheQueueSound : Prop :=
  (∀ s t : State, RecordsBounded s → QueueSound s → step s = .next t → RecordsBounded t ∧ QueueSound t)
    ∧ ∀ s t : State, RecoveryBounded s → ClocksSound s → ResultsBounded s → GenerationsApart s → step s = .next t →
      ResultsBounded t

/-- One record to a key (R38), candidate orders that hold exactly the CANDIDATE records (R85), one holder to a grant
(R104), and DARK junctions with none of them (R81, R122): kept by every step together. Every step keeps each grant's step in
the active plan and its amount at 10 to 400 (R104), where the results are in their ranges. Every step keeps the orders sorted,
too: by score descending, then check-in time ascending, then slot ascending (R85), where no check-in time is later than now
by R2; and that premise is kept by every step that makes no check-in time 2^31 ds old. -/
def Obligations.StepKeepsTheTableConsistent : Prop :=
  (∀ s t : State, TableConsistent s → step s = .next t → TableConsistent t)
    ∧ (∀ s t : State, TableConsistent s → ResultsBounded s → GrantsBounded s → step s = .next t → GrantsBounded t)
    ∧ (∀ s t : State, TableConsistent s → CheckInsRecent s → OrdersSorted s → step s = .next t → OrdersSorted t)
    ∧ ∀ s t : State, CheckInsRecent s → step s = .next t →
      (∀ i : SlotId, ∀ r ∈ recordAt t i, timeDiff t.time r.checkInTime ≠ -2147483648) → CheckInsRecent t

/-- The directive queue's promises (R104, R118, R155, R157), kept by every step whose command does not answer a directive
that has not been sent, which no controller can do (R158, log 22). -/
def Obligations.StepKeepsTheDirectivesSound : Prop :=
  ∀ s t : State, DirectivesSound s → (∀ c ∈ s.pending.head?, ¬AnswersUnsent s c) → step s = .next t →
    DirectivesSound t

/-! ### Junction clocks (chapter 1) -/

/-- "Every valid frame from the junction link that names junction j renews junction j's liveness deadline" to now + link
timeout, "the first thing done for the frame", and regains a lost link (R7); then its content is handled. Nothing else
but the deadline's own expiry and power-on changes it: not a discarded frame, not a directive sent, not a supervisor
command. -/
def Obligations.EveryFrameRenewsItsLink : Prop :=
  (∀ (c : Instr) (m : JunctionMsg) (j : JunctionId) (s : State), deliveredMsg s c = some m →
    junctionOf (msgJunction m) = some j →
      exec c s = .next (deliverContent j m (heard j s))
        ∧ ∃ t, exec c s = .next t ∧ (junctionAt t j).liveness = some (timeAdd s.time s.policy.linkTimeout))
  ∧ ∀ (c : Instr) (j : JunctionId) (s t : State), exec c s = .next t → c ≠ .powerOn → c ≠ .livenessExpiry j →
      (∀ m, deliveredMsg s c = some m → junctionOf (msgJunction m) ≠ some j) →
        (junctionAt t j).liveness = (junctionAt s j).liveness

/-- The expiry of a liveness deadline: the deadline and the local mode become absent; a LIVE junction goes
DARK(LINK_LOST) with R19's effects, at the deadline's time; a DARK one takes the reason LINK_LOST, with no notice (R8). The
expiry of a cycle limit deadline: the junction goes DARK(NO_CYCLE) with R19's effects, its position frozen at the deadline's
time (R16). A deadline that is absent or not reached does not expire (R3; log 2, log 3). -/
def Obligations.LivenessAndCycleLimitExpiriesGoDark : Prop :=
  ∀ (j : JunctionId) (s : State),
    (∀ d ∈ (junctionAt s j).liveness, 0 ≤ timeDiff s.time d → isLive (junctionAt s j) = true →
      ∃ t, exec (.livenessExpiry j) s = .next t ∧ WentDark d j .linkLost s t
        ∧ (junctionAt t j).liveness = none ∧ (junctionAt t j).localMode = none)
    ∧ (∀ d ∈ (junctionAt s j).liveness, 0 ≤ timeDiff s.time d → isLive (junctionAt s j) = false →
      exec (.livenessExpiry j) s =
        .next (onJunction j (fun c => { c with liveness := none, localMode := none, sync := .dark .linkLost }) s))
    ∧ ((∀ d ∈ (junctionAt s j).liveness, timeDiff s.time d < 0) → exec (.livenessExpiry j) s = .next s)
    ∧ (∀ d, (junctionAt s j).sync = .live d → 0 ≤ timeDiff s.time d →
      ∃ t, exec (.cycleLimitExpiry j) s = .next t ∧ WentDark d j .noCycle s t
        ∧ (junctionAt t j).liveness = (junctionAt s j).liveness ∧ (junctionAt t j).localMode = (junctionAt s j).localMode)
    ∧ ((∀ d, (junctionAt s j).sync = .live d → timeDiff s.time d < 0) → exec (.cycleLimitExpiry j) s = .next s)

/-- R9's table of the dark reasons: what a reported mode makes of a reason. -/
def Obligations.StatusSetsTheModeAndReason : Prop :=
  ∀ (b mode : Byte) (j : JunctionId) (s : State), junctionOf b = some j →
    (∀ m : LocalMode, mode.toNat = modeNumber m →
      (isLive (junctionAt s j) = true → m = .coord →
        exec (.status b mode) s = .next (onJunction j (fun c => { c with localMode := some .coord }) (heard j s)))
      ∧ (isLive (junctionAt s j) = true → m ≠ .coord →
        ∃ t, exec (.status b mode) s = .next t ∧ WentDark s.time j .localMode (heard j s) t
          ∧ (junctionAt t j).liveness = (junctionAt (heard j s) j).liveness ∧ (junctionAt t j).localMode = some m)
      ∧ (∀ r, (junctionAt (heard j s) j).sync = .dark r → r ≠ .linkLost →
        exec (.status b mode) s = .next (onJunction j (fun c =>
          { c with
            localMode := some m
            sync := .dark (
              if r = .noPlan then .noPlan
              else if m = .coord then (if r = .localMode then .awaitingCycle else r)
              else .localMode) }) (heard j s))))
    ∧ (3 < mode.toNat → exec (.status b mode) s = .next (raise .frameError (heard j s)))

/-- CYCLE_START of the active plan at a LIVE junction (R13): in order the debt (R126), the lockout counted down (R129),
DEBT_LIMIT (R127), SYNC_SLIP (R14), the clock fields, a TRIM where the debt is not 0 and nothing is in the way (R130), the
junction's records enqueued, and last the issue check where the lockout changed. -/
def Obligations.CycleStartEndsOneCycleAndOpensTheNext : Prop :=
  ∀ (b count : Byte) (j : JunctionId) (s : State) (p : Plan) (t0 : Time), junctionOf b = some j →
    (junctionAt s j).activePlan = some p → (junctionAt s j).stagedPlan.map Plan.planId ≠ some p.planId →
    isLive (junctionAt s j) = true → (junctionAt s j).lastCycleStart = some t0 →
    (let c := junctionAt s j
     let long := timeDiff s.time t0 - p.cycle
     let debt := max (-999) (min 999 (c.debt + long))
     let u := onJunction j (fun c =>
       { c with
         debt := debt
         lockout := c.lockout - 1
         sync := .live (timeAdd s.time (p.cycle + s.policy.debtLimit + s.policy.syncTolerance))
         lastCycleStart := some s.time
         cycleCount := count
         currentStep := some 0
         stepStart := some s.time
         adjustment := 0 }) (heard j s)
     let u := if debt ≠ c.debt + long ∨ s.policy.debtLimit < debt.natAbs then raise .debtLimit u else u
     let u :=
       if s.policy.syncTolerance < (long - c.adjustment).natAbs ∨ count ≠ c.cycleCount + 1 then raise .syncSlip u else u
     let last := fun v : State =>
       let v := { v with evalQueue := queuedWhere s.evalQueue (holdsRecordOf s j) }
       if 0 < c.lockout then issueCheck s.time j v else v
     let amount := -(debt.sign * (min debt.natAbs s.policy.recoveryRate : Nat))
     (debt = 0 ∨ ¬MayDirect s j → exec (.cycleStart b count p.planId) s = .next (last u))
       ∧ (debt ≠ 0 → MayDirect s j → exec (.cycleStart b count p.planId) s =
           .next (last (queueDirective s.time j (.trim amount) (c.tagCounter + 1) (onJunction j (fun c =>
             { c with
               tagCounter := c.tagCounter + 1
               outstanding := some { kind := .trim amount, tag := c.tagCounter + 1 }
               acceptDeadline := none }) u)))))

/-- CYCLE_START at a DARK junction with the active plan's id: it enters LIVE if the local mode is COORD, and takes the
reason LOCAL_MODE otherwise (R12). A CYCLE_START whose id is in neither slot: nothing at a junction without an active
plan; otherwise the junction goes, or stays, DARK(PLAN_MISMATCH) (R10). -/
def Obligations.CycleStartEntersLiveOrMismatches : Prop :=
  ∀ (b count id : Byte) (j : JunctionId) (s : State), junctionOf b = some j →
    (junctionAt s j).stagedPlan.map Plan.planId ≠ some id →
    (∀ p, (junctionAt s j).activePlan = some p → p.planId = id → isLive (junctionAt s j) = false →
      exec (.cycleStart b count id) s =
        .next (if (junctionAt s j).localMode = some .coord then issueCheck s.time j (entered j count p (heard j s))
          else onJunction j (fun c => { c with sync := .dark .localMode }) (heard j s)))
    ∧ ((junctionAt s j).activePlan = none → exec (.cycleStart b count id) s = .next (heard j s))
    ∧ (∀ p, (junctionAt s j).activePlan = some p → p.planId ≠ id → isLive (junctionAt s j) = false →
      exec (.cycleStart b count id) s =
        .next (onJunction j (fun c => { c with sync := .dark .planMismatch }) (heard j s)))
    ∧ (∀ p, (junctionAt s j).activePlan = some p → p.planId ≠ id → isLive (junctionAt s j) = true →
      ∃ t, exec (.cycleStart b count id) s = .next t ∧ WentDark s.time j .planMismatch (heard j s) t
        ∧ (junctionAt t j).liveness = (junctionAt (heard j s) j).liveness
        ∧ (junctionAt t j).localMode = (junctionAt s j).localMode)

/-- CYCLE_START with the staged plan's id: the staged plan becomes the active one and its slot absent; a record of the
junction whose evaluation is in flight is marked; at a LIVE junction the grant ends without a RELEASE, its holder handed
back, an unsent directive taken out and every candidate marked; and the report is handled under R12 (R11, R122, R134). -/
def Obligations.CycleStartAdoptsTheStagedPlan : Prop :=
  ∀ (b count : Byte) (j : JunctionId) (s : State) (p : Plan), TableConsistent s → junctionOf b = some j →
    (junctionAt s j).stagedPlan = some p →
    ∃ u, exec (.cycleStart b count p.planId) s =
        .next (if (junctionAt s j).localMode = some .coord then issueCheck s.time j (entered j count p u)
          else onJunction j (fun c => { c with sync := .dark .localMode }) u)
      ∧ (let unsent := s.directives.any fun d =>
           decide (d.junction = j) && !d.sending && !isRelease d.kind
         let live := isLive (junctionAt s j)
         let c : Junction := { junctionAt (heard j s) j with activePlan := some p, stagedPlan := none, grant := none }
         let c : Junction := if live ∧ unsent then { c with outstanding := none, acceptDeadline := none } else c
         junctionAt u j =
           (match (junctionAt s j).grant with
            | some g =>
              match recordAt s g.slot with
              | some r => withHolder u g.slot r c
              | none => c
            | none => c)
         ∧ u.directives =
             (if live then s.directives.filter (fun d => !(decide (d.junction = j) && !d.sending && !isRelease d.kind))
              else s.directives)
         ∧ ∀ i, (slotAt u i).generation = (slotAt s i).generation
             ∧ recordAt u i = (recordAt s i).map fun r =>
                 { r with
                   changedInFlight := r.changedInFlight || (decide (r.junction = j) && inFlight s i)
                   refreshWanted := r.refreshWanted
                     || decide (r.junction = j ∧ (r.status = .candidate ∨ (grantTagAt s i).isSome = true))
                   status := if r.junction = j ∧ (grantTagAt s i).isSome = true then handedBackState r else r.status })
      ∧ OtherJunctionsSame j s u ∧ u.evalQueue = s.evalQueue ∧ u.transmitter = s.transmitter ∧ u.notices = s.notices
      ∧ outside u = outside (heard j s)

/-- PHASE_START and PHASE_END of a phase the active plan has, at a LIVE junction, that end no grant: the current step is
the phase's step (R17), or the one after it (R18), from now, with SYNC_SLIP where the report is not the expected one. A
phase the plan does not have raises SYNC_SLIP and is otherwise ignored; at a DARK junction a report only renews the link. -/
def Obligations.PhaseReportsMoveTheStep : Prop :=
  (∀ (b phase : Byte) (j : JunctionId) (s : State) (k : Nat), junctionOf b = some j → isLive (junctionAt s j) = true →
    (∀ i, ((activeSteps (junctionAt s j))[i]?).map PlanStep.phase = some phase.toNat ↔ i = k) →
    (∀ i ∈ (junctionAt s j).currentStep, i < (activeSteps (junctionAt s j)).length) →
    (let c := junctionAt s j
     let n := (activeSteps c).length
     let at' := fun k => onJunction j (fun c => { c with currentStep := some k, stepStart := some s.time }) (heard j s)
     ((∀ g, c.grant = some g → g.accepted = true → g.kind = .advance → g.step ≠ k) →
       exec (.phaseStart b phase) s =
         .next (if c.currentStep = some k ∨ c.currentStep.map (fun i => (i + 1) % n) = some k then at' k
           else raise .syncSlip (at' k)))
     ∧ ((∀ g, c.grant = some g → g.accepted = true → g.kind = .extend → g.step ≠ k) →
       exec (.phaseEnd b phase) s =
         .next (if c.currentStep = some k then at' ((k + 1) % n) else raise .syncSlip (at' ((k + 1) % n))))))
  ∧ ∀ (b phase : Byte) (j : JunctionId) (s : State), junctionOf b = some j →
    (isLive (junctionAt s j) = true → (∀ st ∈ activeSteps (junctionAt s j), st.phase ≠ phase.toNat) →
      exec (.phaseStart b phase) s = .next (raise .syncSlip (heard j s))
        ∧ exec (.phaseEnd b phase) s = .next (raise .syncSlip (heard j s)))
    ∧ (isLive (junctionAt s j) = false →
      exec (.phaseStart b phase) s = .next (heard j s) ∧ exec (.phaseEnd b phase) s = .next (heard j s))

/-- A PHASE_END of the granted phase ends an extension and a PHASE_START of it an advance, after acceptance and without a
RELEASE (R119, R116): the step is set, the lockout becomes K (R128), the holder becomes TRACKING(COVERED) and is enqueued,
then the riders; the grant is gone, and the issue check runs. -/
def Obligations.PhaseReportsEndTheGrant : Prop :=
  ∀ (b phase : Byte) (j : JunctionId) (s : State) (g : Grant) (r : Record), junctionOf b = some j →
    isLive (junctionAt s j) = true → (junctionAt s j).grant = some g → g.accepted = true →
    recordAt s g.slot = some r → r.status ≠ .riding →
    (∀ i, ((activeSteps (junctionAt s j))[i]?).map PlanStep.phase = some phase.toNat ↔ i = g.step) →
    (∀ i ∈ (junctionAt s j).currentStep, i < (activeSteps (junctionAt s j)).length) →
    (let c := junctionAt s j
     let n := (activeSteps c).length
     let ended := fun (k : Nat) (slip : Bool) =>
       let u := onJunction j (fun c =>
         { c with currentStep := some k, stepStart := some s.time, lockout := s.policy.lockoutCycles, grant := none })
         (onSlot g.slot (fun sl => { sl with record := some { r with status := .tracking .covered } }) (heard j s))
       let u := { u with evalQueue := queuedWhere (queued s.evalQueue g.slot) (holdsRiderOf s j) }
       issueCheck s.time j (raiseIf slip .syncSlip u)
     (g.kind = .advance → exec (.phaseStart b phase) s =
       .next (ended g.step
         !decide (c.currentStep = some g.step ∨ c.currentStep.map (fun i => (i + 1) % n) = some g.step)))
     ∧ (g.kind = .extend → exec (.phaseEnd b phase) s =
       .next (ended ((g.step + 1) % n) (decide (c.currentStep ≠ some g.step)))))

/-! ### Requests (chapter 3) -/

/-- A CHECK_IN that passes R44 and whose key no slot holds takes the lowest vacant slot, with R46's values, and joins the
evaluation queue; where no slot is vacant it raises TABLE_FULL. -/
def Obligations.CheckInCreatesARecord : Prop :=
  ∀ (m : CheckInMsg) (j : JunctionId) (q : Fin 4) (s : State), Admits s m j q →
    (∀ i : SlotId, ¬HoldsKey s i m.vehicle m.junction) →
    (∀ i : SlotId, recordAt s i = none → (∀ k, k < i → (recordAt s k).isSome = true) → i ∉ s.evalQueue →
      exec (.checkIn m) s = .next
        { onSlot i (fun sl =>
            { sl with
              record := some (withReport m q
                { vehicle := m.vehicle, junction := j, approach := q, cls := .schedule, sequence := 0, distance := 0,
                  speed := none, dwell := none, deviation := none, occupancy := none, forecast := none,
                  decision := none, score := 0, checkInTime := s.time, lastMessage := s.time,
                  expiry := timeAdd s.time s.policy.recordLifetime, status := .pending, changedInFlight := false,
                  refreshWanted := false }) }) s with
          detectionRx := .hunt
          evalQueue := s.evalQueue ++ [i] })
    ∧ ((∀ i : SlotId, (recordAt s i).isSome = true) →
      exec (.checkIn m) s = .next (raise .tableFull { s with detectionRx := .hunt }))

/-- A CHECK_IN that fails one of R44's checks raises BAD_REQUEST once and changes no record, whether or not its key is
held. -/
def Obligations.CheckInIsRefused : Prop :=
  ∀ (m : CheckInMsg) (s : State), (∀ (j : JunctionId) (q : Fin 4), ¬Admits s m j q) →
    exec (.checkIn m) s = .next (raise .badRequest { s with detectionRx := .hunt })

/-- A CHECK_IN that passes R44 and whose key a slot holds refreshes that record (R47): the reported fields, the last
message time and the deadline are set, a CANDIDATE is marked, a record in flight is marked, and the slot is enqueued. A
forced class goes and the score becomes 0 (R42); a CANDIDATE whose score that changes is moved, one move
whatever its place (log 14), with the issue check. -/
def Obligations.CheckInRefreshesItsRecord : Prop :=
  ∀ (m : CheckInMsg) (j : JunctionId) (q : Fin 4) (s : State) (i : SlotId) (r : Record), KeysDiffer s →
    Admits s m j q → recordAt s i = some r → r.vehicle = m.vehicle → r.junction = j →
    (let r' := withReport m q
       { r with
         score := if r.cls = .forced then 0 else r.score
         lastMessage := s.time
         expiry := timeAdd s.time s.policy.recordLifetime
         changedInFlight := r.changedInFlight || inFlight s i
         refreshWanted := r.refreshWanted || decide (r.status = .candidate) }
     let t := { onSlot i (fun sl => { sl with record := some r' }) s with
       detectionRx := .hunt
       evalQueue := queued s.evalQueue i }
     exec (.checkIn m) s = .next (
       if r.status = .candidate ∧ r'.score ≠ r.score then
         issueCheck s.time j (onJunction j (fun c =>
           { c with candidates := insertSorted t i (c.candidates.erase i), changeCount := c.changeCount + 1 }) t)
       else t))

/-- An UPDATE: dropped with BAD_REQUEST where no slot holds its key, dropped silently where its sequence is not newer, and
otherwise accepted (R48, R49): the fields it carries, the sequence, the last message time and the deadline are set, a
record in flight is marked, and the slot is enqueued. -/
def Obligations.UpdateIsMatchedAndAccepted : Prop :=
  ∀ (m : UpdateMsg) (s : State), RecordsBounded s → KeysDiffer s →
    ((∀ i : SlotId, ¬HoldsKey s i m.vehicle m.junction) →
      exec (.update m) s = .next (raise .badRequest { s with detectionRx := .hunt }))
    ∧ ∀ (i : SlotId), HoldsKey s i m.vehicle m.junction → ∀ r ∈ recordAt s i,
      (let newer := 1 ≤ (m.sequence - r.sequence).toNat ∧ (m.sequence - r.sequence).toNat ≤ 127
       (¬newer → exec (.update m) s = .next { s with detectionRx := .hunt })
       ∧ (newer → exec (.update m) s = .next
           { onSlot i (fun sl =>
               { sl with
                 record := some (withUpdate m
                   { r with
                     lastMessage := s.time
                     expiry := timeAdd s.time s.policy.recordLifetime
                     changedInFlight := r.changedInFlight || inFlight s i }) }) s with
             detectionRx := .hunt
             evalQueue := queued s.evalQueue i }))

/-- The commands that retire a record: CHECK_OUT and PASSAGE as SERVED (R50, R52), CANCEL as WITHDRAWN (R51), RECORD_RETIRE
as RETIRED, answered OK (R54), and its expiry as EXPIRED, with EXPIRED raised once (R53). A PASSAGE then reaches the passage
table (log 13, log 20). Where no slot holds the key, each is dropped; RECORD_RETIRE answers NO_RECORD. A CHECK_OUT or CANCEL
of a junction above 15 is dropped silently (R50, R51, R152). The expiry of a vacant slot, or of a deadline not reached, leaves
the state as it is, and one taken late carries the deadline as its time: the model's choices (log 2, log 3). -/
def Obligations.RetiringCommandsRetireTheirRecord : Prop :=
  (∀ (s : State) (v : Half) (b a : Byte) (j : JunctionId), RecordsBounded s → KeysDiffer s → junctionOf b = some j →
    (∀ i : SlotId, HoldsKey s i v b →
      exec (.checkOut v b) s = .next (retire s.time i .served { s with detectionRx := .hunt })
        ∧ exec (.cancel v b) s = .next (retire s.time i .withdrawn { s with detectionRx := .hunt })
        ∧ exec (.passage b a v) s = .next (passageAt s.time v j (retire s.time i .served (heard j s)))
        ∧ (∀ d, (recordAt s i).map Record.expiry = some d → 0 ≤ timeDiff s.time d →
          exec (.recordExpiry i) s = .next (raise .expired (retire d i .expired s)))
        ∧ (¬Busy s → ∀ n : RecordName, (n.mode = 0#8 ∧ n.vehicle = v ∧ n.junction = b)
              ∨ (n.mode = 1#8 ∧ n.slot.toNat = i.val ∧ n.generation = (slotAt s i).generation) →
          exec (.recordRetire n) s = .next (taken s (.recordRetire n) .ok [] (retire s.time i .retired s))))
    ∧ ((∀ i : SlotId, ¬HoldsKey s i v b) →
      exec (.checkOut v b) s = .next { s with detectionRx := .hunt }
        ∧ exec (.cancel v b) s = .next { s with detectionRx := .hunt }
        ∧ exec (.passage b a v) s = .next (passageAt s.time v j (heard j s))
        ∧ (¬Busy s → ∀ n : RecordName, n.mode = 0#8 → n.vehicle = v → n.junction = b →
          exec (.recordRetire n) s = .next (taken s (.recordRetire n) .noRecord [] s))))
  ∧ (∀ (s : State) (i : SlotId), (∀ d, (recordAt s i).map Record.expiry = some d → timeDiff s.time d < 0) →
      exec (.recordExpiry i) s = .next s)
  ∧ ∀ (s : State) (v : Half) (b : Byte), 15 < b.toNat →
      exec (.checkOut v b) s = .next { s with detectionRx := .hunt }
        ∧ exec (.cancel v b) s = .next { s with detectionRx := .hunt }

/-- A retirement, whatever its cause, of a record without a grant: the slot is vacated with the next generation and leaves
the evaluation queue; a CANDIDATE leaves its junction's order, and the issue check of the junction follows (R56). -/
def Obligations.RetirementVacatesTheSlot : Prop :=
  ∀ (now : Time) (i : SlotId) (o : RetireOutcome) (s : State) (r : Record), recordAt s i = some r →
    (let t := { onSlot i vacated s with evalQueue := s.evalQueue.erase i }
     (r.status ≠ .candidate → tagOf r.status = none → retire now i o s = t)
     ∧ (r.status = .candidate → retire now i o s =
         issueCheck now r.junction (onJunction r.junction (fun c =>
           { c with candidates := c.candidates.erase i, changeCount := c.changeCount + 1 }) t)))

/-- The retirement of the holder of an accepted grant: a RELEASE with the grant tag is queued (R118), the cycle adjustment
changes (R15), the lockout becomes K (R128), a SERVED end writes the last-served summary, the riders are enqueued, the grant
is gone, the slot is vacated, and the issue check runs (R56, R116, R117). The retirement of the holder of an offer ends it
before acceptance (R121): the grant is gone at once; an unsent directive is taken out of the queue and the outstanding
directive becomes absent, and a sent one stays outstanding; nothing is released, locked out, written or enqueued; and the
issue check runs. -/
def Obligations.RetiredHolderEndsItsGrant : Prop :=
  ∀ (now : Time) (i : SlotId) (o : RetireOutcome) (s : State) (r : Record) (tag : Byte) (g : Grant),
    recordAt s i = some r → r.status = .granted tag → (junctionAt s r.junction).grant = some g → g.slot = i →
    (g.accepted = true → g.step < (activeSteps (junctionAt s r.junction)).length →
    ∃ u, retire now i o s = issueCheck now r.junction u
      ∧ junctionAt u r.junction =
          (let c := junctionAt s r.junction
           { c with
             releaseQueued := true
             adjustment := adjusted c.adjustment (giveBack now c g)
             lockout := s.policy.lockoutCycles
             lastServed :=
               if o = .served then
                 some { vehicle := r.vehicle, kind := g.kind, amount := g.amount, arrival := now }
               else c.lastServed
             grant := none })
      ∧ OtherJunctionsSame r.junction s u ∧ slotAt u i = vacated (slotAt s i) ∧ OtherSlotsSame i s u
      ∧ u.evalQueue = (queuedWhere s.evalQueue (holdsRiderOf s r.junction)).erase i
      ∧ ReleaseJoins now r.junction tag s u ∧ u.notices = s.notices ∧ outside u = outside s)
    ∧ (g.accepted = false →
    (let unsent := fun d : Directive => decide (d.junction = r.junction) && !d.sending && isGrantKind d.kind
     let t := { onSlot i vacated s with
       evalQueue := s.evalQueue.erase i
       directives := s.directives.filter fun d => !unsent d }
     retire now i o s =
       issueCheck now r.junction (onJunction r.junction (fun c =>
         if s.directives.any unsent then { c with grant := none, outstanding := none, acceptDeadline := none }
         else { c with grant := none }) t)))

/-! ### Evaluations (chapters 2, 4, 5 and 6) -/

/-- EVALUATION_START takes the head slot while the evaluator is IDLE, and holds the slot, its generation, t_e = now and the
values read, each as it stands: the record's fields, the junction's sync state, plan, step, grant, debt and lockout (R25),
the feeding segment and the policy items (R58); the record is not changed (R93, R94). While it is EVALUATING, or with nothing
queued, nothing starts. Where events are taken in their bounds, corridor time does not move while a start is due, so the
start carries the time of the event that made it possible (R93; the model does not enforce it, log 4). -/
def Obligations.EvaluationStartsAtTheHead : Prop :=
  ∀ s : State,
    (∀ (i : SlotId) (rest : List SlotId) (r : Record), s.flight = none → s.evalQueue = i :: rest →
      recordAt s i = some r →
      ∃ v : Reads,
        exec .evaluationStart s = .next
          { s with
            evalQueue := rest
            flight := some { slot := i, generation := (slotAt s i).generation, te := s.time, reads := v } }
        ∧ (v.approach = r.approach ∧ v.cls = r.cls ∧ v.distance = r.distance ∧ v.speed = r.speed ∧ v.dwell = r.dwell
          ∧ v.deviation = r.deviation ∧ v.occupancy = r.occupancy ∧ v.lastMessage = r.lastMessage)
        ∧ (let c := junctionAt s r.junction
           (v.live = true ↔ ∃ limit, c.sync = .live limit)
           ∧ v.plan = c.activePlan ∧ v.currentStep = c.currentStep ∧ v.stepStart = c.stepStart
           ∧ v.debt = c.debt ∧ v.lockout = c.lockout
           ∧ (c.grant = none → v.grant = none)
           ∧ (∀ g, c.grant = some g → v.grant = some
               { mode := if g.accepted then (if g.kind = .extend then .extending else .advancing) else .offered
                 step := g.step, kind := g.kind, amount := g.amount })
           ∧ (∀ p k g, c.activePlan = some p → (p.approaches[r.approach]).feeding = some k → segmentAt s k = some g →
               v.segment = some { usable := decide (g.state ≠ .stale), estimate := g.estimate, length := g.length })
           ∧ ((∀ p k, c.activePlan = some p → (p.approaches[r.approach]).feeding = some k → segmentAt s k = none) →
               v.segment = none))
        ∧ (v.horizon = s.policy.horizon ∧ v.guardTime = s.policy.guardTime ∧ v.minGrant = s.policy.minGrant
          ∧ v.partials = s.policy.partials ∧ v.debtLimit = s.policy.debtLimit ∧ v.early = s.policy.early
          ∧ v.threshold = s.policy.threshold))
    ∧ (s.flight.isSome = true ∨ s.evalQueue = [] → exec .evaluationStart s = .next s)
    ∧ ∀ t : State, Timely s → StartDue s → step s = .next t → StartDue t → t.time = s.time

/-- The walk with no grant in progress (R27, R28): with c the running step, n steps and cycle C, the greens of step phi lie
at the offsets the rule gives. What a grant in progress does to the walk of its holder and riders, whose priority step is
the grant step: an extension lengthens the target green, or holds the running one (R29); an advance brings the next green
that has not started forward by the smaller of its amount and the donors' yields (R30). What it does to the walk of a record
of another priority step: every offset from the end of the lengthened occurrence on moves later by the lengthening, and
every offset from the advanced occurrence on moves earlier by the advance (R28 to R30). `plan` is the walk without the grant,
and `ahead` counts the steps from the running one on. The slacks are those of the plan whatever the grant (R31). Where the
target green is itself a donor of the advance, it stays in place while the following green moves, and F, handed on as R30
leaves it, can fall below G_e: the model's choice (log 24). -/
def Obligations.WalkFollowsThePlanAndTheGrant : Prop :=
  (∀ (w : WalkInput) (phi debtLimit : Nat) (debt : Int), w.current < w.steps.length → phi < w.steps.length →
    (∀ g ∈ w.grant, g.mode = .idle ∨ g.mode = .offered) →
    (let n := w.steps.length
     let split := fun i => (stepAt w.steps i).split
     let cycle := (w.steps.map PlanStep.split).sum
     let remaining := split w.current - w.elapsed
     let r := walk w phi debtLimit debt
     (w.current = phi → r.greenStart = 0 ∧ r.greenEnd = remaining)
     ∧ (w.current ≠ phi →
         r.greenStart = remaining
             + ((List.range ((phi + n - w.current) % n - 1)).map fun k => split (w.current + 1 + k)).sum
           ∧ r.greenEnd = r.greenStart + split phi)
     ∧ r.nextGreen + split phi = r.greenEnd + cycle))
  ∧ (∀ (w : WalkInput) (g : GrantView) (debtLimit : Nat) (debt : Int), w.current < w.steps.length →
    g.step < w.steps.length → w.grant = some g →
    (let r := walk w g.step debtLimit debt
     let plan := walk { w with grant := none } g.step debtLimit debt
     (g.mode = .extending → w.current ≠ g.step →
       r.greenStart = plan.greenStart ∧ r.greenEnd = plan.greenEnd + g.amount
         ∧ r.nextGreen = plan.nextGreen + g.amount)
     ∧ (g.mode = .extending → w.current = g.step →
       r.greenStart = 0 ∧ r.greenEnd = (stepAt w.steps g.step).split + g.amount - w.elapsed
         ∧ r.nextGreen + plan.greenEnd = plan.nextGreen + r.greenEnd)
     ∧ (g.mode = .advancing → w.current ≠ g.step →
       (let d := min g.amount (targetYield w g.step)
        r.greenStart = plan.greenStart - d ∧ r.greenEnd = plan.greenEnd - d ∧ r.nextGreen = plan.nextGreen - d))
     ∧ (g.mode = .advancing → w.current = g.step →
       r.greenStart = plan.greenStart ∧ r.greenEnd = plan.greenEnd
         ∧ r.nextGreen = plan.nextGreen - min g.amount (followingYield w g.step))))
  ∧ ∀ (w : WalkInput) (g : GrantView) (phi debtLimit : Nat) (debt : Int), w.current < w.steps.length →
    g.step < w.steps.length → phi < w.steps.length → w.grant = some g →
    (let r := walk w phi debtLimit debt
     let plan := walk { w with grant := none } phi debtLimit debt
     let ahead := fun k => (k + w.steps.length - w.current) % w.steps.length
     (r.extensionSlack = plan.extensionSlack ∧ r.targetSlack = plan.targetSlack ∧ r.followingSlack = plan.followingSlack)
     ∧ (phi ≠ g.step → g.mode = .extending → w.current ≠ g.step →
       (let late := if ahead phi < ahead g.step then 0 else g.amount
        r.greenStart = plan.greenStart + late ∧ r.greenEnd = plan.greenEnd + late
          ∧ r.nextGreen = plan.nextGreen + g.amount))
     ∧ (phi ≠ g.step → g.mode = .extending → w.current = g.step →
       (let split := (stepAt w.steps g.step).split
        let late := (split + g.amount - w.elapsed) - (split - w.elapsed)
        r.greenStart = plan.greenStart + late ∧ r.greenEnd = plan.greenEnd + late ∧ r.nextGreen = plan.nextGreen + late))
     ∧ (phi ≠ g.step → g.mode = .advancing → w.current ≠ g.step →
       (let early := min g.amount (targetYield w g.step)
        let before := if ahead phi < ahead g.step then 0 else early
        r.greenStart + before = plan.greenStart ∧ r.greenEnd + before = plan.greenEnd
          ∧ r.nextGreen + early = plan.nextGreen))
     ∧ (phi ≠ g.step → g.mode = .advancing → w.current = g.step →
       r.greenStart = plan.greenStart ∧ r.greenEnd = plan.greenEnd
         ∧ r.nextGreen + min g.amount (followingYield w g.step) = plan.nextGreen))

/-- The yields of the donors (R31, R32), the headrooms (R33) and the three slacks (R34). The donors of a running green are
none; those of the following green are all the other steps, each yielding its split above its minimum, or nothing if
protected; before a target green that has not begun stand the running step, with what is left above its minimum, and the
steps between. -/
def Obligations.SlacksComeFromYieldsAndHeadrooms : Prop :=
  ∀ (w : WalkInput) (phi debtLimit : Nat) (debt : Int), w.current < w.steps.length → phi < w.steps.length →
    (let n := w.steps.length
     let step := stepAt w.steps phi
     let running := stepAt w.steps w.current
     let r := walk w phi debtLimit debt
     (r.extensionSlack : Int) = min (step.maxExtension : Int) (max 0 (debtLimit - debt))
     ∧ (r.targetSlack : Int) = min (step.maxAdvance : Int) (min (targetYield w phi : Int) (max 0 (debtLimit + debt)))
     ∧ (r.followingSlack : Int) =
         min (step.maxAdvance : Int) (min (followingYield w phi : Int) (max 0 (debtLimit + debt)))
     ∧ (w.current = phi → targetYield w phi = 0)
     ∧ (w.current ≠ phi → targetYield w phi =
         (if running.guarded then 0 else (running.split - w.elapsed) - (running.minGreen - w.elapsed))
           + ((List.range ((phi + n - w.current) % n - 1)).map fun k => stepYield (stepAt w.steps (w.current + 1 + k))).sum)
     ∧ followingYield w phi + stepYield step = (w.steps.map stepYield).sum)

/-- The forecast (R59 to R62, R64, R65): INDEFINITE where no travel time is found, and otherwise BEYOND, AT_BAR or VALUE by
the remaining time, with the window of an AT_BAR or VALUE one. -/
def Obligations.ForecastFollowsTheTravelTime : Prop :=
  ∀ (r : Reads) (te : Time), (∀ g ∈ r.segment, 0 < g.length) →
    ((∀ tau src, ¬TravelTime r tau src) → forecastOf r te = .indefinite te)
    ∧ ∀ tau src, TravelTime r tau src →
      (let rho := ((tau : Int) + (r.dwell.getD 0 : Nat) - timeDiff te r.lastMessage).toNat
       let a := rho - rho / 8
       let b := rho + rho / 8 + r.guardTime
       (r.horizon < rho → forecastOf r te = .beyond te rho src)
       ∧ (rho ≤ r.horizon → r.distance = 0 ∨ rho = 0 → forecastOf r te = .atBar te rho a b src)
       ∧ (rho ≤ r.horizon → r.distance ≠ 0 → rho ≠ 0 → forecastOf r te = .value te rho a b src)
       ∧ a ≤ rho ∧ rho ≤ b ∧ (a = 0 ↔ rho = 0))

/-- The decision for a window against the walk: the cases of R67 in their order, with the outcomes of R68 to R72 and the
amounts of R73, whichever of G_e and F is the earlier. -/
def Obligations.DecisionFollowsTheWindow : Prop :=
  ∀ (r : Reads) (w : WalkResult) (a b : Nat), a ≤ b → w.greenStart ≤ w.greenEnd →
    (let d := decisionCase r w a b
     (w.nextGreen ≤ a → d = .far)
     ∧ (a < w.nextGreen → w.greenStart ≤ a → b ≤ w.greenEnd → d = .none)
     ∧ (a < w.nextGreen → a < w.greenStart → Sought r .advance (w.greenStart - a) w.targetSlack d)
     ∧ (a < w.nextGreen → w.greenStart ≤ a → a < w.greenEnd → w.greenEnd < b →
         Sought r .extend (b - w.greenEnd) w.extensionSlack d)
     ∧ (a < w.nextGreen → w.greenEnd ≤ a → w.greenEnd < b →
         max (b - w.greenEnd) r.minGrant ≤ w.extensionSlack → d = .extend (max (b - w.greenEnd) r.minGrant) false)
     ∧ (a < w.nextGreen → w.greenEnd ≤ a → w.greenEnd < b →
         w.extensionSlack < max (b - w.greenEnd) r.minGrant →
         Sought r .advance (w.nextGreen - a) w.followingSlack d))

/-- What an evaluation hands to completion (R66, R75, R76), row by row of R66. At a DARK junction the decision is cleared,
and the outcome is the forecast's where that is INDEFINITE or BEYOND, and DARK otherwise. With no priority step the decision
is NOT_SERVED, and the outcome the forecast's or NOT_SERVED. With an INDEFINITE or BEYOND forecast the stored decision is
kept. Otherwise the decision is R67's for the window against the walk made from the values read (R26), with its time and its
outcome. A decided EXTEND or ADVANCE carries an amount from Gmin to the step's maximum and the headroom of its kind (R74). -/
def Obligations.DecidedAmountFitsMaximumAndHeadroom : Prop :=
  ∀ (r : Reads) (te : Time),
    (let f := forecastOf r te
     let u := (decisionOf r te).1
     let o := (decisionOf r te).2
     let phi := r.plan.bind fun p => (p.approaches[r.approach]).priority
     let steps := (r.plan.map Plan.steps).getD []
     let byForecast := fun other : EvalOutcome =>
       match f with
       | .indefinite _ => .indefinite
       | .beyond _ _ _ => .beyond
       | _ => other
     (let e := evaluate r te
      e.forecast = f ∧ e.decision = u ∧ e.outcome = o ∧ e.score = scoreOf r o)
     ∧ (r.live = false → u = .clear ∧ o = byForecast .dark)
     ∧ (r.live = true → phi = none → u = .store { kind := .notServed, time := te } ∧ o = byForecast .notServed)
     ∧ ∀ k, r.live = true → phi = some k →
       (f = .indefinite te → u = .keep ∧ o = .indefinite)
       ∧ (∀ rho src, f = .beyond te rho src → u = .keep ∧ o = .beyond)
       ∧ ∀ rho a b src, f = .value te rho a b src ∨ f = .atBar te rho a b src →
         (let start := r.stepStart.getD te
          let w := walk
            { steps := steps, current := r.currentStep.getD 0, elapsed := (timeDiff te start).toNat, grant := r.grant }
            k r.debtLimit r.debt
          let d := decisionCase r w a b
          u = .store { kind := d, time := te }
            ∧ (d = .none → o = .none) ∧ (d = .far → o = .far) ∧ (d = .noSlack → o = .noSlack)
            ∧ (∀ n p, d = .extend n p → o = .extend n ∧ r.minGrant ≤ n ∧ n ≤ (stepAt steps k).maxExtension
                ∧ (n : Int) ≤ max 0 (r.debtLimit - r.debt) ∧ (p = true → r.partials = true))
            ∧ (∀ n p, d = .advance n p → o = .advance n ∧ r.minGrant ≤ n ∧ n ≤ (stepAt steps k).maxAdvance
                ∧ (n : Int) ≤ max 0 (r.debtLimit + r.debt) ∧ (p = true → r.partials = true))
            ∧ d ≠ .notServed))

/-- The score of an evaluation (R77, R78): the formula held to 0 to 1022 for classes 0 to 2, at least 200 for class 2 and 50
for class 1 where the amount is at most 400, and 1023 for class 3. -/
def Obligations.ScoreFollowsTheFormula : Prop :=
  ∀ (r : Reads) (o : EvalOutcome),
    (∀ base term : Nat, r.cls ≠ .forced →
      base = (if r.cls = .schedule then 0 else if r.cls = .late then 150 else 300) →
      (∀ n, o = .extend n ∨ o = .advance n → term = n) → ((∀ n, o ≠ .extend n ∧ o ≠ .advance n) → term = 0) →
      (scoreOf r o : Int) = max 0 (min 1022 (base + 2 * min (max (r.deviation.getD 0) 0) 300
        + (min (r.occupancy.getD 0) 150 * 2 / 3 : Nat) - (term / 4 : Nat))))
    ∧ (r.cls = .forced → scoreOf r o = 1023)
    ∧ ((∀ n, o = .extend n ∨ o = .advance n → n ≤ 400) →
        scoreOf r o ≤ 1023 ∧ (r.cls ≠ .forced → scoreOf r o ≤ 1000)
          ∧ (r.cls = .headway → 200 ≤ scoreOf r o) ∧ (r.cls = .late → 50 ≤ scoreOf r o))

/-- A completion whose slot has lost the record that was read is discarded (R96); one whose record was restated in flight is
discarded too, the flag cleared and the slot enqueued (R97). Neither changes anything else (R99). With no evaluation in
flight nothing completes: that clause is the model's choice (log 2). -/
def Obligations.LostOrRestatedResultsAreDiscarded : Prop :=
  ∀ s : State,
    (s.flight = none → exec .evaluationCompletion s = .next s)
    ∧ ∀ f : Flight, s.flight = some f →
      ((recordAt s f.slot = none ∨ (slotAt s f.slot).generation ≠ f.generation) →
        exec .evaluationCompletion s = .next { s with flight := none })
      ∧ ∀ r : Record, recordAt s f.slot = some r → (slotAt s f.slot).generation = f.generation →
        r.changedInFlight = true →
        exec .evaluationCompletion s = .next
          { onSlot f.slot (fun sl => { sl with record := some { r with changedInFlight := false } }) s with
            flight := none
            evalQueue := queued s.evalQueue f.slot }

/-- A completion that stores its results for a record that is not GRANTED (R98): the results are stored, R80's table sets
the state with R82's riding test at completion, the candidate order follows (R84, log 14), a record whose NONE rested on an
ended grant is queued again (R82), and the issue check runs where the record is left CANDIDATE. -/
def Obligations.CompletionStoresTheResultsAndSetsTheState : Prop :=
  ∀ (s : State) (f : Flight) (r : Record) (riding : Bool), s.flight = some f → recordAt s f.slot = some r →
    (slotAt s f.slot).generation = f.generation → r.changedInFlight = false → tagOf r.status = none →
    (riding = true ↔ AcceptedOn (junctionAt s r.junction) (readPriority f.reads)) →
    (let c := junctionAt s r.junction
     let o := (decisionOf f.reads f.te).2
     let st := stateByRows o (isLive c) riding r.cls f.reads (scoreOf f.reads o)
     let r' := { withResults f r with status := st }
     let rested := o = .none ∧ isLive c = true ∧ riding = false
       ∧ ReadAccepted f.reads ∧ f.reads.grant.map GrantView.step = readPriority f.reads
     let t := { onSlot f.slot (fun sl => { sl with record := some r' }) s with flight := none }
     let t := onJunction r.junction (orderAfter t f.slot r st r'.score) t
     (rested → exec .evaluationCompletion s = .next { t with evalQueue := queued s.evalQueue f.slot })
     ∧ (¬rested → exec .evaluationCompletion s = .next (if st = .candidate then issueCheck s.time r.junction t else t)))

/-- The holder rule (R115): the results of a GRANTED record are stored, and the grant stands, but where it is accepted, the
evaluation read an accepted grant, and its outcome is not NONE. Then it is withdrawn (R120) with a RELEASE: R116's effects,
with the holder's state set by R80 and the order following (log 14), the holder and the riders enqueued, and the issue check. -/
def Obligations.HolderRuleJudgesTheGrant : Prop :=
  ∀ (s : State) (f : Flight) (r : Record) (tag : Byte) (g : Grant), s.flight = some f → recordAt s f.slot = some r →
    (slotAt s f.slot).generation = f.generation → r.changedInFlight = false → r.status = .granted tag →
    (junctionAt s r.junction).grant = some g → g.slot = f.slot →
    g.step < (activeSteps (junctionAt s r.junction)).length →
    (let j := r.junction
     let c := junctionAt s j
     let o := (decisionOf f.reads f.te).2
     (¬(g.accepted = true ∧ ReadAccepted f.reads ∧ o ≠ .none) →
       exec .evaluationCompletion s = .next
         { onSlot f.slot (fun sl => { sl with record := some (withResults f r) }) s with flight := none })
     ∧ (g.accepted = true → ReadAccepted f.reads → o ≠ .none →
       (let st := stateByRows o (isLive c) false r.cls f.reads (scoreOf f.reads o)
        ∃ u, exec .evaluationCompletion s = .next (issueCheck s.time j u)
          ∧ junctionAt u j = orderAfter u f.slot r st (withResults f r).score
              { c with
                releaseQueued := true
                adjustment := adjusted c.adjustment (giveBack s.time c g)
                lockout := s.policy.lockoutCycles
                grant := none }
          ∧ OtherJunctionsSame j s u
          ∧ slotAt u f.slot = { slotAt s f.slot with record := some { withResults f r with status := st } }
          ∧ OtherSlotsSame f.slot s u
          ∧ u.evalQueue = queuedWhere (queued s.evalQueue f.slot) (holdsRiderOf s j)
          ∧ ReleaseJoins s.time j tag s u ∧ u.notices = s.notices
          ∧ outside u = { outside s with flight := none })))

/-! ### Grants, answers and trims (chapters 7 and 8) -/

/-- The issue check (R106, R107, R108). It changes nothing unless the junction is LIVE, not suspended, and free of a grant,
an outstanding directive and a SENDING one. It then walks the order from the head: entries held back by the lockout stay as
they are, stale ones are marked and enqueued, and the first other entry is offered the grant as R108 states. -/
def Obligations.IssueCheckOffersTheFirstQualifyingCandidate : Prop :=
  ∀ (now : Time) (j : JunctionId) (s : State),
    (¬(isLive (junctionAt s j) = true ∧ (junctionAt s j).suspended = false ∧ MayDirect s j) → issueCheck now j s = s)
    ∧ ∀ (pre : List SlotId), isLive (junctionAt s j) = true → (junctionAt s j).suspended = false → MayDirect s j →
      (∀ k ∈ pre, ∃ r ∈ recordAt s k, PassedOver now j s r) →
      (let stale := pre.filter fun k =>
         (recordAt s k).any fun r => !decide (0 < (junctionAt s j).lockout ∧ r.cls ≠ .forced)
       ((junctionAt s j).candidates = pre →
         ∃ t, issueCheck now j s = t
           ∧ (∀ k, slotAt t k = if k ∈ stale then
                { slotAt s k with record := (recordAt s k).map fun r => { r with refreshWanted := true } }
              else slotAt s k)
           ∧ t.evalQueue = stale.foldl queued s.evalQueue
           ∧ t.junctions = s.junctions ∧ t.directives = s.directives ∧ t.transmitter = s.transmitter
           ∧ t.notices = s.notices ∧ outside t = outside s)
       ∧ ∀ (i : SlotId) (post : List SlotId) (r : Record) (d : Decision) (kind : GrantKind) (n step : Nat)
           (st : PlanStep),
         (junctionAt s j).candidates = pre ++ i :: post → i ∉ pre → recordAt s i = some r → ¬PassedOver now j s r →
         r.decision = some d → (∃ p, (kind = .extend ∧ d.kind = .extend n p) ∨ (kind = .advance ∧ d.kind = .advance n p)) →
         priorityOf (junctionAt s j) r.approach = some step → (activeSteps (junctionAt s j))[step]? = some st →
         ∃ t, issueCheck now j s = t
           ∧ (let c := junctionAt s j
              let tag := c.tagCounter + 1
              let queue := queueDirective now j
                (if kind = .extend then .extend st.phase n else .advance st.phase n) tag s
              junctionAt t j =
                { c with
                  tagCounter := tag
                  candidates := pre ++ post
                  changeCount := c.changeCount + 1
                  grant := some
                    { accepted := false, slot := i, generation := (slotAt s i).generation, step := step, kind := kind,
                      amount := n, offerTime := now }
                  outstanding := some { kind := if kind = .extend then .extend else .advance, tag := tag }
                  acceptDeadline := none }
              ∧ (∀ k, slotAt t k =
                  if k = i then { slotAt s i with record := some { r with status := .granted tag } }
                  else if k ∈ stale then
                    { slotAt s k with record := (recordAt s k).map fun r => { r with refreshWanted := true } }
                  else slotAt s k)
              ∧ t.evalQueue = stale.foldl queued s.evalQueue
              ∧ t.directives = queue.directives ∧ t.transmitter = queue.transmitter)
           ∧ OtherJunctionsSame j s t ∧ t.notices = s.notices ∧ outside t = outside s)

/-- An ACCEPT with the current tag accepts the grant (R111): the mode follows the kind, the cycle adjustment changes (R15),
the records mapped to the grant step are enqueued in slot order, the holder among them, the outstanding directive and its
deadline are absent, and the issue check runs. It finds the mode not IDLE and offers nothing. The holder is enqueued also
where a refresh has moved it to an approach of another step while the grant was OFFERED: the model's reading (log 23). -/
def Obligations.AcceptStartsTheGrant : Prop :=
  ∀ (b tag : Byte) (j : JunctionId) (s : State) (g : Grant) (kind : OutstandingKind), junctionOf b = some j →
    (junctionAt s j).grant = some g → g.accepted = false → grantTagAt s g.slot = some tag →
    (junctionAt s j).outstanding = some { kind := kind, tag := tag } → kind = outstandingOf g.kind →
    (let t := onJunction j (fun c =>
       { c with
         grant := some { g with accepted := true }
         adjustment := adjusted c.adjustment (if g.kind = .extend then (g.amount : Int) else -(g.amount : Int))
         outstanding := none
         acceptDeadline := none }) (heard j s)
     let joins := fun i => decide (i = g.slot) || (recordAt s i).any fun r =>
       decide (r.junction = j) && decide (priorityOf (junctionAt s j) r.approach = some g.step)
     exec (.accept b tag) s = .next { t with evalQueue := queuedWhere s.evalQueue joins }
       ∧ modeOf (junctionAt t j) = if g.kind = .extend then .extending else .advancing)

/-- A DECLINE with the current tag hands the grant back with DECLINED (R112), whatever its reason; the expiry of the accept
deadline under that tag does the same with OFFER_TIMEOUT, at the deadline's time (R113). The issue check then runs. At
any junction, whatever is outstanding there, a deadline that is absent or not reached leaves the state as it is, one taken
late carries its own time, and one with nothing outstanding, which no run reaches, only goes (R3): the model's choices (log 2,
log 3, log 16). -/
def Obligations.DeclineOrTimeoutHandsTheGrantBack : Prop :=
  (∀ (b tag reason : Byte) (j : JunctionId) (s : State) (g : Grant) (r : Record) (kind : OutstandingKind),
    junctionOf b = some j → (junctionAt s j).grant = some g → g.accepted = false → recordAt s g.slot = some r →
    r.status = .granted tag → (junctionAt s j).outstanding = some { kind := kind, tag := tag } →
    kind = outstandingOf g.kind →
    (∃ u, exec (.decline b tag reason) s = .next (issueCheck s.time j u) ∧ HandedBack j g r .declined (heard j s) u)
    ∧ ∀ d, (junctionAt s j).acceptDeadline = some d → 0 ≤ timeDiff s.time d →
      ∃ u, exec (.acceptDeadlineExpiry j) s = .next (issueCheck d j u) ∧ HandedBack j g r .offerTimeout s u)
  ∧ ∀ (j : JunctionId) (s : State),
    ((∀ d, (junctionAt s j).acceptDeadline = some d → timeDiff s.time d < 0) →
      exec (.acceptDeadlineExpiry j) s = .next s)
    ∧ ∀ d, (junctionAt s j).acceptDeadline = some d → 0 ≤ timeDiff s.time d → (junctionAt s j).outstanding = none →
      exec (.acceptDeadlineExpiry j) s = .next (onJunction j (fun c => { c with acceptDeadline := none }) s)

/-- Late answers (R110 rows 3 and 4, R114): each raises LATE_ANSWER once. One whose tag the outstanding EXTEND or ADVANCE
still carries answers it, and the issue check runs; an ACCEPT is released, unless it repeats the accepted grant's tag.
Nothing else changes. The expiry of a deadline whose tag is not current gives the directive up with OFFER_TIMEOUT (R113);
one taken late carries its own time (the model's choice, log 3). -/
def Obligations.LateAnswersAreReleased : Prop :=
  ∀ (b tag reason : Byte) (j : JunctionId) (s : State), junctionOf b = some j →
    currentTag s j ≠ some tag →
    (let done := fun u : State => onJunction j (fun c => { c with outstanding := none, acceptDeadline := none }) u
     let h := heard j s
     (∀ kind, (junctionAt s j).outstanding = some { kind := kind, tag := tag } → (∀ n, kind ≠ .trim n) →
       exec (.accept b tag) s = .next (issueCheck s.time j (raise .lateAnswer (done (queueRelease s.time j tag h))))
       ∧ exec (.decline b tag reason) s = .next (issueCheck s.time j (raise .lateAnswer (done h)))
       ∧ ∀ d, (junctionAt s j).acceptDeadline = some d → 0 ≤ timeDiff s.time d →
           exec (.acceptDeadlineExpiry j) s = .next (issueCheck d j (raise .offerTimeout (done s))))
     ∧ ((∀ o ∈ (junctionAt s j).outstanding, o.tag ≠ tag) →
       exec (.decline b tag reason) s = .next (raise .lateAnswer h)
       ∧ exec (.accept b tag) s = .next (raise .lateAnswer (
           if (junctionAt s j).grant.any (fun g => g.accepted && decide (grantTagAt s g.slot = some tag)) then h
           else queueRelease s.time j tag h))))

/-- The answers to an outstanding TRIM: an ACCEPT changes the cycle adjustment by its signed amount (R131); a DECLINE ends
it without a notice, and the expiry of its deadline with OFFER_TIMEOUT (R132). Each is followed by the issue check. An
expiry taken late carries the deadline as its time (the model's choice, log 3). -/
def Obligations.TrimAnswersEndTheTrim : Prop :=
  ∀ (b tag reason : Byte) (j : JunctionId) (s : State) (n : Int), junctionOf b = some j →
    (junctionAt s j).outstanding = some { kind := .trim n, tag := tag } →
    (let done := fun u : State => onJunction j (fun c => { c with outstanding := none, acceptDeadline := none }) u
     exec (.accept b tag) s = .next (issueCheck s.time j (done (onJunction j (fun c =>
         { c with adjustment := adjusted c.adjustment n }) (heard j s))))
     ∧ exec (.decline b tag reason) s = .next (issueCheck s.time j (done (heard j s)))
     ∧ ∀ d, (junctionAt s j).acceptDeadline = some d → 0 ≤ timeDiff s.time d →
         exec (.acceptDeadlineExpiry j) s = .next (issueCheck d j (raise .offerTimeout (done s))))

/-! ### Segments and passages (chapter 9) -/

/-- A PASSAGE at the passage table (R142): vehicles 0 and 65535 change nothing; otherwise the vehicle's entry, if it names
another junction from which a configured segment leads here, gives a sample to that segment; and then the vehicle has an
entry for this junction in the youngest place, the oldest entry going where 48 others are held. -/
def Obligations.PassageIsPairedAndWritten : Prop :=
  ∀ (now : Time) (v : Half) (j : JunctionId) (s : State),
    (¬(1 ≤ v.toNat ∧ v.toNat ≤ 65534) → passageAt now v j s = s)
    ∧ (PassagesBounded s → SegmentsBounded s → 1 ≤ v.toNat ∧ v.toNat ≤ 65534 →
      (let others := s.passages.filter fun e => decide (e.vehicle ≠ v)
       let written := fun t : State =>
         { t with
           passages := (if others.length = 48 then others.drop 1 else others)
             ++ [{ vehicle := v, junction := j, entryTime := now, expiry := timeAdd now s.policy.passageLifetime }] }
       ((∀ e ∈ s.passages, e.vehicle = v → e.junction = j
            ∨ ∀ k : SegmentId, ∀ g ∈ segmentAt s k, ¬(g.source = e.junction ∧ g.target = j)) →
         passageAt now v j s = written s)
       ∧ ∀ e ∈ s.passages, e.vehicle = v → e.junction ≠ j →
         ∀ (k : SegmentId), ∀ g ∈ segmentAt s k, g.source = e.junction → g.target = j →
           passageAt now v j s = written (handSample now e.junction j (timeDiff now e.entryTime) s)))

/-- A captured sample moves the estimate a quarter of the way, rounded toward zero and held to Tmin to Tcap, and makes the
segment FRESH (R144); an overrun counts, and the third in a row degrades a FRESH segment (R145). A change of the state or the
estimate enqueues the tied records (R147), and nothing else does. -/
def Obligations.SamplesMoveTheEstimate : Prop :=
  ∀ (now : Time) (i j : JunctionId) (sample : Int) (s : State) (k : SegmentId) (g : Segment), SegmentsBounded s →
    segmentAt s k = some g → g.source = i → g.target = j →
    (let tied := fun t : State => { t with evalQueue := queuedWhere t.evalQueue (holdsTied s k) }
     let set := fun g' : Segment => setSegment k (some g') s
     let moved := max (g.tmin : Int) (min (g.tcap : Int) (g.estimate + Int.tdiv (sample - g.estimate) 4))
     (sample ≤ g.tcap →
       (let t := set
          { g with
            estimate := moved.toNat
            state := .fresh (timeAdd now s.policy.staleTime)
            streak := 0
            lastSample := now }
        (moved = g.estimate → (∃ d, g.state = .fresh d) → handSample now i j sample s = t)
        ∧ (moved ≠ g.estimate ∨ (∀ d, g.state ≠ .fresh d) → handSample now i j sample s = tied t)))
     ∧ (g.tcap < sample →
       (∀ d, g.state = .fresh d →
         (g.streak < 2 → handSample now i j sample s = set { g with streak := g.streak + 1 })
         ∧ (g.streak = 2 → handSample now i j sample s =
             tied (raise .segmentDegraded (set { g with streak := 3, estimate := g.tcap, state := .degraded d }))))
       ∧ (∀ d, g.state = .degraded d → handSample now i j sample s = s)
       ∧ (g.state = .stale → handSample now i j sample s = set { g with streak := min 3 (g.streak + 1) })))

/-- The expiry of a stale deadline makes the segment STALE, everything else of it kept, and enqueues its tied records (R146);
the expiry of a passage entry removes it, the entries behind keeping their order (R143). Where the deadline is not reached,
the segment is STALE or UNCONFIGURED, or the vehicle has no entry, the expiry does not occur and the state stays as it is:
the model's choice (log 2, log 3). -/
def Obligations.StaleAndEntryDeadlinesExpire : Prop :=
  ∀ s : State,
    (∀ (k : SegmentId) (g : Segment) (d : Time), segmentAt s k = some g → (g.state = .fresh d ∨ g.state = .degraded d) →
      exec (.staleDeadlineExpiry k) s =
        .next (if 0 ≤ timeDiff s.time d then
          { setSegment k (some { g with state := .stale }) s with evalQueue := queuedWhere s.evalQueue (holdsTied s k) }
        else s))
    ∧ (∀ (k : SegmentId), (∀ g ∈ segmentAt s k, g.state = .stale) → exec (.staleDeadlineExpiry k) s = .next s)
    ∧ (∀ (v : Half) (pre post : List PassageEntry) (e : PassageEntry), PassagesBounded s → s.passages = pre ++ e :: post →
      e.vehicle = v →
      exec (.passageEntryExpiry v) s =
        .next (if 0 ≤ timeDiff s.time e.expiry then { s with passages := pre ++ post } else s))
    ∧ ∀ v : Half, (∀ e ∈ s.passages, e.vehicle ≠ v) → exec (.passageEntryExpiry v) s = .next s

/-! ### The links (chapter 10) -/

/-- The bytes of a frame, received one after another by an assembler in HUNT, are taken as the message whose code and fields
they hold by R152's and R153's tables: exactly what the message's own command does (R149, R150, R152, R153). Every body of a
link's code and that code's length holds a message; those tables give the codes and lengths a link knows. A frame has the
parts of R149, and its check over "123456789" is 0x29B1. That a row which is a frame stands for the arrival of the frame's
last byte is the model's choice (log 7). -/
def Obligations.FrameBytesDeliverTheirMessage : Prop :=
  (∀ (kind : Byte) (body : List Byte) (s : State),
    (∀ m, s.detectionRx = .hunt → DetectionLayout kind body m →
      runCommands (received .detection (frameOf kind body)) s = exec (detectionCommand m) s)
    ∧ ∀ m, s.junctionRx = .hunt → JunctionLayout kind body m →
      runCommands (received .junction (frameOf kind body)) s = exec (frameCommand m) s)
  ∧ (∀ (kind : Byte) (body : List Byte),
    (∀ m, detectionMsg kind body = some m ↔ DetectionLayout kind body m)
    ∧ (∀ m, junctionMsg kind body = some m ↔ JunctionLayout kind body m)
    ∧ (∀ link n, bodySize link kind = some n ↔ (kind, n) ∈ linkKinds link)
    ∧ ((kind, body.length) ∈ linkKinds .detection → ∃ m, DetectionLayout kind body m)
    ∧ ((kind, body.length) ∈ linkKinds .junction → ∃ m, JunctionLayout kind body m)
    ∧ (body.length < 256 → FrameParts (frameOf kind body) kind body.length
        ∧ ((frameOf kind body).drop 3).take body.length = body))
  ∧ crc16 [0x31, 0x32, 0x33, 0x34, 0x35, 0x36, 0x37, 0x38, 0x39] = 0x29B1#16

/-- A frame in progress is discarded, with FRAME_ERROR once and the assembler in HUNT, for any of R151's causes: a foreign
kind or a wrong length, a failed check, a UART error, or its gap deadline. A frame of a junction above 15 is discarded too
(R154). In HUNT every byte but a good 0xA5 is dropped silently (R150). Every other byte of a frame but its last, in the
phases LENGTH, KIND, BODY and CHECK, is taken: it moves the phase by R150's table, sets the gap deadline again to now + 2 ds,
and changes nothing else. The model's choices: BAD_FRAME discards whatever the
assembler's phase, HUNT included (log 7), and a gap deadline that is absent or not reached leaves the state as it is (log 2,
log 3). -/
def Obligations.DiscardedFramesRaiseFrameError : Prop :=
  ∀ (link : Link) (s : State),
    (let dropped : State := raise .frameError (setAssembler link .hunt s)
     (∀ cause, exec (.badFrame link cause) s = .next dropped)
     ∧ (∀ d ∈ gapOf (assemblerOf s link), exec (.gapDeadlineExpiry link) s =
         .next (if 0 ≤ timeDiff s.time d then dropped else s))
     ∧ (assemblerOf s link = .hunt → exec (.gapDeadlineExpiry link) s = .next s
         ∧ ∀ b e, exec (.linkByteReceived link b e) s =
             .next (if b = 0xA5#8 ∧ e = false then setAssembler link (.receiving .length [] (timeAdd s.time 2)) s else s))
     ∧ (∀ taken d b,
         (let takes := fun (phase : RxPhase) (bytes : List Byte) =>
            exec (.linkByteReceived link b false) s =
              .next (setAssembler link (.receiving phase bytes (timeAdd s.time 2)) s)
          (assemblerOf s link = .receiving .length taken d → takes .kind [b])
          ∧ (assemblerOf s link = .receiving .kind taken d → bodySize link b = some (takenLength taken) →
              takes .body (taken ++ [b]))
          ∧ (assemblerOf s link = .receiving .body taken d →
              takes (if taken.length + 1 = takenLength taken + 2 then .check else .body) (taken ++ [b]))
          ∧ (assemblerOf s link = .receiving .check taken d → taken.length = takenLength taken + 2 →
              takes .check (taken ++ [b]))))
     ∧ (assemblerOf s link ≠ .hunt → ∀ b, exec (.linkByteReceived link b true) s = .next dropped)
     ∧ (∀ taken d b, assemblerOf s link = .receiving .kind taken d → bodySize link b ≠ some (takenLength taken) →
         exec (.linkByteReceived link b false) s = .next dropped)
     ∧ (∀ taken d b n, assemblerOf s link = .receiving .check taken d → n = takenLength taken → taken.length = n + 3 →
         [byteAt taken (n + 2), b] ≠ le16 (crc16 (taken.take (n + 2))) →
           exec (.linkByteReceived link b false) s = .next dropped))
    ∧ ∀ m : JunctionMsg, 15 < (msgJunction m).toNat →
      exec (.foreignJunctionFrame m) s = .next (raise .frameError { s with junctionRx := .hunt })
        ∧ exec (frameCommand m) s = .next (raise .frameError { s with junctionRx := .hunt })

/-- The transmitter's choice (R157): while IDLE, the oldest WAITING RELEASE, or where none waits the oldest WAITING entry,
becomes SENDING, and the frame of its fields as they stand is committed to the line, byte by byte as R149 and R153 lay out
an EXTEND, an ADVANCE, a TRIM and a RELEASE. While BUSY, or with nothing WAITING, it chooses nothing. An EXTEND, ADVANCE,
TRIM or new RELEASE joins at the tail, WAITING, with its junction, kind and tag (R108, R130, R156): on a BUSY line it stays
so, and where nothing else waits on an IDLE one it is SENDING at once. A RELEASE is queued by merging into the one queued, or by a new entry with the flag set (R118). -/
def Obligations.TransmitterTakesReleasesFirst : Prop :=
  ∀ (now : Time) (s : State),
    (s.transmitter.isSome = true ∨ (∀ d ∈ s.directives, d.sending = true) → transmitNext now s = s)
    ∧ (∀ (pre post : List Directive) (d : Directive), s.transmitter = none → s.directives = pre ++ d :: post →
      d.sending = false → (∀ e ∈ pre, e.sending = true ∨ (d.kind = .release ∧ e.kind ≠ .release)) →
      (d.kind ≠ .release → ∀ e ∈ post, e.sending = true ∨ e.kind ≠ .release) →
      ∃ frame : List Byte, DirectiveLayout d frame ∧ transmitNext now s =
        { s with
          directives := pre ++ { d with sending := true } :: post
          transmitter := some { frame := frame, since := now } })
    ∧ (∀ (j : JunctionId) (kind : DirectiveKind) (tag : Byte),
      (let entry : Directive := { junction := j, kind := kind, tag := tag, sending := false }
       queueDirective now j kind tag s = transmitNext now { s with directives := s.directives ++ [entry] }
       ∧ (s.transmitter.isSome = true →
           queueDirective now j kind tag s = { s with directives := s.directives ++ [entry] })
       ∧ (s.transmitter = none → (∀ d ∈ s.directives, d.sending = true) → ∃ frame : List Byte, DirectiveLayout entry frame
           ∧ queueDirective now j kind tag s =
             { s with
               directives := s.directives ++ [{ entry with sending := true }]
               transmitter := some { frame := frame, since := now } })))
    ∧ ∀ (j : JunctionId) (tag : Byte),
      ((junctionAt s j).releaseQueued = true → queueRelease now j tag s =
        { s with
          directives := s.directives.map fun d =>
            if d.junction = j ∧ d.kind = .release then { d with tag := tag } else d })
      ∧ ((junctionAt s j).releaseQueued = false → queueRelease now j tag s =
        onJunction j (fun c => { c with releaseQueued := true }) (transmitNext now
          { s with directives := s.directives ++ [{ junction := j, kind := .release, tag := tag, sending := false }] }))

/-- SENT_EVENT (R158): the SENDING entry leaves the queue; a RELEASE clears its junction's flag; an EXTEND, ADVANCE or TRIM
sets the accept deadline, if its tag is still outstanding (R109); the transmitter chooses again; and the issue check runs for
an EXTEND, ADVANCE or TRIM (R106). While IDLE nothing is sent (log 2). -/
def Obligations.SentEventFreesTheLine : Prop :=
  ∀ s : State, (s.transmitter = none → exec .sentEvent s = .next s)
    ∧ ∀ (pre post : List Directive) (d : Directive), s.transmitter.isSome = true → s.directives = pre ++ d :: post →
      d.sending = true → (∀ e ∈ pre, e.sending = false) →
      (let t := { s with directives := pre ++ post, transmitter := none }
       (d.kind = .release → exec .sentEvent s =
         .next (transmitNext s.time (onJunction d.junction (fun c => { c with releaseQueued := false }) t)))
       ∧ (d.kind ≠ .release → exec .sentEvent s =
         .next (issueCheck s.time d.junction (transmitNext s.time (onJunction d.junction (fun c =>
           { c with
             acceptDeadline :=
               if c.outstanding.map Outstanding.tag = some d.tag then some (timeAdd s.time s.policy.acceptTimeout)
               else c.acceptDeadline }) t)))))

/-! ### The supervisor port (chapter 11) -/

/-- A supervisor command (R160): while the port is EXECUTING its frame is discarded with FRAME_ERROR and nothing else;
otherwise it is taken: it acts, the response is built from the state as it left it, a held response is gone, and the port is
EXECUTING. A command that only reads changes nothing but the port. 0x00 is driven for every byte. -/
def Obligations.PortTakesACommandUnlessExecuting : Prop :=
  ∀ (c : Instr) (cmd : Command) (s : State), supervisorCommand c = some cmd →
    (Busy s → exec c s = .next (raise .frameError
      { s with spiDriven := List.replicate (commandLength cmd + 5) 0 }))
    ∧ (¬Busy s → exec c s = .next (taken s cmd (act cmd s).2.1 (act cmd s).2.2 (act cmd s).1)
        ∧ (readsOnly cmd = true → (act cmd s).1 = s))

/-- A transaction on the port by its bytes (R160, R161): one opened by 0xA5 whose rest is one frame with a command's code,
length and body fields by R162's table, and a good check, is that command; any other, and one opened by neither 0xA5 nor 0x5A, is discarded with
FRAME_ERROR, the port and its response staying as they are. What is driven in the last kind is free (log 10). The row carries
the bytes, so the other kinds are said too (log 8). Every body of a code's length holds a command. -/
def Obligations.TransactionsAreReadByTheirBytes : Prop :=
  (∀ (kind : Byte) (body : List Byte),
    (∀ cmd, commandOf kind body = some cmd ↔ CommandLayout kind body cmd)
    ∧ ∀ c, kind = commandNumber c → body.length = commandLength c → ∃ cmd, CommandLayout kind body cmd)
  ∧ ∀ (first : Byte) (rest : List Byte) (s : State),
    (first = 0xA5#8 → ∀ (c : Instr) (cmd : Command) (kind : Byte) (body : List Byte), supervisorCommand c = some cmd →
      CommandLayout kind body cmd → 0xA5#8 :: rest = frameOf kind body →
      exec (.commandFrameDiscarded first rest) s = exec c s)
    ∧ (first = 0xA5#8 → (∀ kind body cmd, CommandLayout kind body cmd → 0xA5#8 :: rest ≠ frameOf kind body) →
      exec (.commandFrameDiscarded first rest) s =
        .next (raise .frameError { s with spiDriven := List.replicate (rest.length + 1) 0 }))
    ∧ (first = 0x5A#8 → exec (.commandFrameDiscarded first rest) s = exec (.readTransaction rest.length) s)
    ∧ (first ≠ 0xA5#8 → first ≠ 0x5A#8 → ∃ bytes : List Byte, bytes.length = rest.length + 1
        ∧ exec (.commandFrameDiscarded first rest) s =
            .next (raise .frameError { s with spiDriven := bytes, freeCount := s.freeCount + (rest.length + 1) }))

/-- READ_TRANSACTION (R161): from the second byte on the part drives the response frame it holds while READY, then 0x00, and
the response is marked as read; its code is numbered by R162; while IDLE or EXECUTING it drives the not-ready frame, then 0x00, and nothing changes in the
port. The first byte driven is free (log 10). RESPONSE_READY (R160) makes an EXECUTING port READY with the mark clear, and
leaves the state of any other port as it is, which is the model's choice (log 2). RDY is high exactly while READY with the
mark clear. -/
def Obligations.ReadsReturnTheHeldResponse : Prop :=
  ∀ (n : Nat) (s : State),
    (∃ b : Byte,
      (let drives := fun (frame : List Byte) (t : State) =>
         { t with
           freeCount := s.freeCount + 1
           spiDriven := b :: (List.range n).map fun k => frame.getD k 0 }
       (∀ r mark, s.port = .ready r mark → exec (.readTransaction n) s =
          .next (drives (frameOf r.kind (responseNumber r.code :: r.result)) { s with port := .ready r true }))
       ∧ ((∀ r mark, s.port ≠ .ready r mark) → exec (.readTransaction n) s =
          .next (drives [0xA5#8, 0x00#8, 0x7F#8, 0x77#8, 0x92#8] s))))
    ∧ (∀ r since, s.port = .executing r since → exec .responseReady s = .next { s with port := .ready r false })
    ∧ (¬Busy s → exec .responseReady s = .next s)
    ∧ (rdy s = true ↔ ∃ r, s.port = .ready r false)

/-- PLAN_STAGE (R22, R23): the eight checks in their order give the response, and a plan that passes them fills the junction's
staged slot; nothing else changes. -/
def Obligations.PlanStageFillsTheStagedSlot : Prop :=
  ∀ (b : PlanBody) (s : State), ¬Busy s →
    (15 < b.junction.toNat → exec (.planStage b) s = .next (taken s (.planStage b) .badJunction [] s))
    ∧ ∀ j, junctionOf b.junction = some j →
      (¬PlanFields b → exec (.planStage b) s = .next (taken s (.planStage b) .badField [] s))
      ∧ (PlanFields b → planIdOf (junctionAt s j).activePlan = some b.planId →
          exec (.planStage b) s = .next (taken s (.planStage b) .notAllowed [] s))
      ∧ (PlanFields b → planIdOf (junctionAt s j).activePlan ≠ some b.planId →
          ∃ p, PlanSound p ∧ exec (.planStage b) s =
              .next (taken s (.planStage b) .ok [] (onJunction j (fun c => { c with stagedPlan := some p }) s))
            ∧ p.planId = b.planId ∧ p.cycle = b.cycle.toNat ∧ p.steps.length = b.count.toNat
            ∧ (∀ (k : Fin 8) st, p.steps[k.val]? = some st →
                st.phase = b.steps[k].phase.toNat ∧ st.split = b.steps[k].split.toNat
                  ∧ st.minGreen = b.steps[k].minGreen.toNat ∧ (st.guarded = true ↔ b.steps[k].guarded = 1#8)
                  ∧ st.maxExtension = b.steps[k].maxExtension.toNat ∧ st.maxAdvance = b.steps[k].maxAdvance.toNat)
            ∧ ∀ q : Fin 4,
                p.approaches[q].priority =
                    (if b.approaches[q].priority = 0xFF#8 then none else some b.approaches[q].priority.toNat)
                  ∧ p.approaches[q].feeding.map Fin.val =
                    (if b.approaches[q].feeding = 0xFF#8 then none else some b.approaches[q].feeding.toNat))

/-- What PLAN_READ sends of a plan is its PLAN_STAGE body of 93 bytes, field by field, the steps beyond n sent as 0, and
staging that body gives the plan back: no field of a plan is lost between the two layouts (R21, R24, R162). -/
def Obligations.PlanReadReturnsWhatWasStaged : Prop :=
  ∀ (p : Plan) (j : JunctionId) (slot : Byte) (s : State), PlanSound p → ¬Busy s →
    (slot = 0#8 ∧ (junctionAt s j).activePlan = some p ∨ slot = 1#8 ∧ (junctionAt s j).stagedPlan = some p) →
    ∃ (body : List Byte) (b : PlanBody), PlanLayout j p body ∧ CommandLayout 0x41 body (.planStage b)
      ∧ exec (.planRead (byteOf j.val) slot) s = .next (taken s (.planRead (byteOf j.val) slot) .ok body s)
      ∧ planOf b = p ∧ b.junction = byteOf j.val ∧ PlanFields b
      ∧ ∀ t : State, ¬Busy t → planIdOf (junctionAt t j).activePlan ≠ some p.planId →
          exec (.planStage b) t = .next (taken t (.planStage b) .ok []
            (onJunction j (fun c => { c with stagedPlan := some p }) t))

/-- PLAN_READ, SEGMENT_READ and JUNCTION_QUERY where they name nothing (R24, R140, R163): a junction above 15, which comes
before the slot code (log 15), a slot code above 1, an empty slot, a segment above 31 or an UNCONFIGURED one. A configured
segment is answered with every field of R137, and JUNCTION_QUERY of a junction with the 46 bytes of R162's layout, field by
field. -/
def Obligations.ReadCommandsAnswerByTheirOperands : Prop :=
  ∀ (a b : Byte) (s : State), ¬Busy s →
    (15 < a.toNat → exec (.planRead a b) s = .next (taken s (.planRead a b) .badJunction [] s)
      ∧ exec (.junctionQuery a) s = .next (taken s (.junctionQuery a) .badJunction [] s))
    ∧ (∀ j, junctionOf a = some j →
      (1 < b.toNat → exec (.planRead a b) s = .next (taken s (.planRead a b) .badField [] s))
      ∧ (b = 0#8 → (junctionAt s j).activePlan = none →
          exec (.planRead a b) s = .next (taken s (.planRead a b) .noRecord [] s))
      ∧ (b = 1#8 → (junctionAt s j).stagedPlan = none →
          exec (.planRead a b) s = .next (taken s (.planRead a b) .noRecord [] s))
      ∧ ∃ result, QueryLayout s.time (junctionAt s j) result
          ∧ exec (.junctionQuery a) s = .next (taken s (.junctionQuery a) .ok result s))
    ∧ (31 < a.toNat → exec (.segmentRead a) s = .next (taken s (.segmentRead a) .badField [] s))
    ∧ ∀ k : SegmentId, a.toNat = k.val →
      (segmentAt s k = none → exec (.segmentRead a) s = .next (taken s (.segmentRead a) .noRecord [] s))
      ∧ ∀ g, segmentAt s k = some g → ∃ result, SegmentLayout k g result
          ∧ exec (.segmentRead a) s = .next (taken s (.segmentRead a) .ok result s)

/-- SEGMENT_SET (R139): the six checks in their order give the response; a command that passes them configures the segment
whole, FRESH with the nominal estimate, and enqueues the tied records (R147). -/
def Obligations.SegmentSetConfiguresTheSegment : Prop :=
  ∀ (b : SegmentBody) (s : State), ¬Busy s →
    (let answers := fun (code : ResponseCode) (t : State) =>
       exec (.segmentSet b) s = .next (taken s (.segmentSet b) code [] t)
     (31 < b.segment.toNat → answers .badField s)
     ∧ ∀ k : SegmentId, b.segment.toNat = k.val →
       ((15 < b.source.toNat ∨ 15 < b.target.toNat) → answers .badJunction s)
       ∧ ∀ i j : JunctionId, b.source.toNat = i.val → b.target.toNat = j.val →
         (let inRange := i ≠ j ∧ (50 ≤ b.length.toNat ∧ b.length.toNat ≤ 4000)
            ∧ (20 ≤ b.tmin.toNat ∧ b.tmin.toNat ≤ 6000) ∧ (100 ≤ b.tcap.toNat ∧ b.tcap.toNat ≤ 6000)
            ∧ b.tmin.toNat ≤ b.tcap.toNat ∧ b.tmin.toNat ≤ b.tnom.toNat ∧ b.tnom.toNat ≤ b.tcap.toNat
          let held := ∃ m : SegmentId, m ≠ k ∧ ∃ g ∈ segmentAt s m, g.source = i ∧ g.target = j
          (¬inRange → answers .badField s)
          ∧ (inRange → held → answers .notAllowed s)
          ∧ (inRange → ¬held → answers .ok
              { setSegment k (some
                  { state := .fresh (timeAdd s.time s.policy.staleTime), source := i, target := j,
                    length := b.length.toNat, tmin := b.tmin.toNat, tcap := b.tcap.toNat, tnom := b.tnom.toNat,
                    estimate := b.tnom.toNat, streak := 0, lastSample := s.time }) s with
                evalQueue := queuedWhere s.evalQueue (holdsTied s k) })))

/-- POLICY_SET (R164, R16): refused whole with BAD_FIELD where an item is out of range; otherwise every item is replaced, and
the cycle limit of every LIVE junction is set again from its last cycle start: a junction whose new limit is not later than
now is lost, and goes DARK(NO_CYCLE) with R19's effects. Nothing else changes (R135, R148). The items stand in a POLICY_SET
body of 23 bytes at the offsets that the order of R164's table gives them, and POLICY_READ returns the items in force in the
same layout (R162). -/
def Obligations.PolicySetReplacesEveryItem : Prop :=
  ∀ (b : PolicyBody) (s : State), ¬Busy s →
    (¬PolicyBounded (policyOf b) ∨ 1 < b.partials.toNat →
      exec (.policySet b) s = .next (taken s (.policySet b) .badField [] s))
    ∧ (PolicyBounded (policyOf b) → b.partials.toNat ≤ 1 →
      (let p := policyOf b
       let limit := fun c : Junction =>
         timeAdd (c.lastCycleStart.getD s.time) (cycleOf c + p.debtLimit + p.syncTolerance)
       let lost := fun j => isLive (junctionAt s j) && decide (0 ≤ timeDiff s.time (limit (junctionAt s j)))
       ∃ t, exec (.policySet b) s = .next (taken s (.policySet b) .ok [] t)
         ∧ (∀ j, junctionAt t j =
             (let c := junctionAt s j
              if lost j then
                { c with
                  sync := .dark .noCycle
                  frozenPosition := (c.lastCycleStart.map fun t0 => (timeDiff s.time t0).toNat).getD c.frozenPosition
                  grant := none
                  outstanding := none
                  acceptDeadline := none
                  candidates := []
                  changeCount := c.changeCount + byteOf c.candidates.length }
              else if isLive c then { c with sync := .live (limit c) }
              else c))
         ∧ (∀ i, (slotAt t i).generation = (slotAt s i).generation
             ∧ recordAt t i = (recordAt s i).map fun r =>
                 if lost r.junction = true ∧ seeksGrant r = true then { r with status := .held .junctionDark } else r)
         ∧ t.directives = s.directives.filter (fun d => !(lost d.junction && !d.sending && !isRelease d.kind))
         ∧ t.notices = ((raise .junctionDark)^[((List.finRange 16).filter lost).length] s).notices
         ∧ t.evalQueue = s.evalQueue ∧ t.transmitter = s.transmitter ∧ outside t = { outside s with policy := p }))
    ∧ (∀ body : List Byte, body.length = 23 → commandOf 0x45 body = some (.policySet (policyBodyOf body))
        ∧ Field body 8 1 (policyBodyOf body).partials.toNat
        ∧ ((policyBodyOf body).partials.toNat ≤ 1 → PolicyLayout (policyOf (policyBodyOf body)) body))
    ∧ ∃ body : List Byte, PolicyLayout s.policy body ∧ exec .policyRead s = .next (taken s .policyRead .ok body s)
        ∧ (PolicyBounded s.policy → policyOf (policyBodyOf body) = s.policy)

/-- JUNCTION_SUSPEND sets the suspend flag and JUNCTION_RESUME clears it, whatever it was; RESUME runs the issue check each
time it is taken (R124). A junction above 15 is answered BAD_JUNCTION (R163). -/
def Obligations.SuspendAndResumeSetTheFlag : Prop :=
  ∀ (b : Byte) (s : State), ¬Busy s →
    (15 < b.toNat →
      exec (.junctionSuspend b) s = .next (taken s (.junctionSuspend b) .badJunction [] s)
        ∧ exec (.junctionResume b) s = .next (taken s (.junctionResume b) .badJunction [] s))
    ∧ ∀ j, junctionOf b = some j →
      exec (.junctionSuspend b) s = .next (taken s (.junctionSuspend b) .ok []
          (onJunction j (fun c => { c with suspended := true }) s))
        ∧ exec (.junctionResume b) s = .next (taken s (.junctionResume b) .ok []
          (issueCheck s.time j (onJunction j (fun c => { c with suspended := false }) s)))

/-- How RECORD_LOOKUP, RECORD_RETIRE and RECORD_FORCE name a record and what answers a name that finds none; a LOOKUP
changes nothing but the count of free bytes it uses, and answers with the 57 bytes of R162's layout, field by field, those
of an absent dwell, deviation, occupancy or grant tag being free (log 11); a FORCE makes the class 3 and the score 1023,
enqueues the slot, and moves a CANDIDATE, with the issue check (R42, R88, R163; log 14). -/
def Obligations.RecordCommandsFindTheirRecord : Prop :=
  ∀ (n : RecordName) (s : State), ¬Busy s → RecordsBounded s → KeysDiffer s →
    (∀ code, (1 < n.mode.toNat ∧ code = .badField)
        ∨ (n.mode = 0#8 ∧ 15 < n.junction.toNat ∧ code = .badJunction)
        ∨ (n.mode = 0#8 ∧ n.junction.toNat ≤ 15 ∧ (∀ i, ¬HoldsKey s i n.vehicle n.junction) ∧ code = .noRecord)
        ∨ (n.mode = 1#8 ∧ 95 < n.slot.toNat ∧ code = .badField)
        ∨ (∃ i : SlotId, n.mode = 1#8 ∧ n.slot.toNat = i.val ∧ recordAt s i = none ∧ code = .noRecord) →
      exec (.recordLookup n) s = .next (taken s (.recordLookup n) code [] s)
        ∧ exec (.recordRetire n) s = .next (taken s (.recordRetire n) code [] s)
        ∧ exec (.recordForce n) s = .next (taken s (.recordForce n) code [] s))
    ∧ ∀ (i : SlotId) (r : Record), recordAt s i = some r →
      (n.mode = 0#8 ∧ HoldsKey s i n.vehicle n.junction) ∨ (n.mode = 1#8 ∧ n.slot.toNat = i.val) →
      (∃ result, result.length = 57 ∧ RecordLayout i (slotAt s i) r result ∧ ResultLayout r result
        ∧ exec (.recordLookup n) s =
            .next (taken s (.recordLookup n) .ok result { s with freeCount := s.freeCount + 6 }))
      ∧ (n.mode = 1#8 → n.generation ≠ (slotAt s i).generation →
          exec (.recordRetire n) s = .next (taken s (.recordRetire n) .noRecord [] s)
            ∧ exec (.recordForce n) s = .next (taken s (.recordForce n) .noRecord [] s))
      ∧ (n.mode = 0#8 ∨ n.generation = (slotAt s i).generation →
          (let t := { onSlot i (fun sl => { sl with record := some { r with cls := .forced, score := 1023 } }) s with
             evalQueue := queued s.evalQueue i }
           exec (.recordForce n) s = .next (taken s (.recordForce n) .ok [] (
             if r.status = .candidate ∧ r.score ≠ 1023 then
               issueCheck s.time r.junction (onJunction r.junction (fun c =>
                 { c with candidates := insertSorted t i (c.candidates.erase i), changeCount := c.changeCount + 1 }) t)
             else t))))

/-- The candidate listing (R165): LIST_START sets the cursor and returns up to four entries from the head; LIST_CONTINUE goes
on from the position while the change count is the cursor's, answers LIST_STALE and drops the cursor where it is not, and
NOT_ALLOWED with no cursor. Only the cursor changes. -/
def Obligations.ListingReadsTheCandidateOrder : Prop :=
  ∀ (b : Byte) (s : State), ¬Busy s →
    (let pages := fun (i : Instr) (cmd : Command) (j : JunctionId) (position : Nat) =>
       let c := junctionAt s j
       let entries := (c.candidates.drop position).take 4
       let next := position + entries.length
       ∃ result, ListLayout s (c.candidates.length - next) c.changeCount entries result
         ∧ exec i s = .next (taken s cmd .ok result
             { s with cursor := some { junction := j, changeCount := c.changeCount, position := next } })
     (15 < b.toNat → exec (.listStart b) s = .next (taken s (.listStart b) .badJunction [] s))
     ∧ (∀ j, junctionOf b = some j → pages (.listStart b) (.listStart b) j 0)
     ∧ (s.cursor = none → exec .listContinue s = .next (taken s .listContinue .notAllowed [] s))
     ∧ ∀ k, s.cursor = some k →
       ((junctionAt s k.junction).changeCount ≠ k.changeCount →
         exec .listContinue s = .next (taken s .listContinue .listStale [] { s with cursor := none }))
       ∧ ((junctionAt s k.junction).changeCount = k.changeCount →
         pages .listContinue .listContinue k.junction k.position))

/-- The notice unit's commands (R166): each NOTICE_WRITE acts on the categories whose mask bit is 1, and on no other; the
master writes ignore the mask; a refused one answers BAD_FIELD and changes nothing; NOTICE_READ clears nothing, and returns
the pending mask, the enable mask, the master enable and the 12 counts as R162 lays them out. A raise of a category, by its
bit number in R166's order, sets its flag and adds 1 to its count, which saturates at 255; its enable, the other categories
and the rest of the state stay. In every state ATTN is high exactly while the master enable is on and some category is both
pending and enabled, and it is low at power-on (R167). -/
def Obligations.NoticeCommandsActOnTheirMask : Prop :=
  (∀ s : State, (attn s = true ↔
      s.masterEnable = true ∧ ∃ k : Fin 12, s.notices[k].raised = true ∧ s.notices[k].enabled = true)
    ∧ ∃ t, exec .powerOn s = .next t ∧ attn t = false)
  ∧ (∀ c : Category, c ∈ categories)
  ∧ (∀ (n k : Fin 12) (c : Category) (s : State), categories[n.val]? = some c →
      (raise c s).notices[k] =
          (if k = n then { s.notices[k] with raised := true, count := min 255 (s.notices[k].count + 1) } else s.notices[k])
        ∧ { raise c s with notices := s.notices } = s)
  ∧ ∀ (m : Half) (s : State), ¬Busy s →
    (let masked := fun (f : Notice → Notice) (t : State) =>
       (∀ k : Fin 12, t.notices[k] = if m.getLsbD k.val then f s.notices[k] else s.notices[k])
         ∧ { t with notices := s.notices } = s
     (m.toNat < 4096 →
       (∃ t, masked (fun n => { n with enabled := true }) t
         ∧ exec (.noticeWriteEnablesSet m) s = .next (taken s (.noticeWrite 0 1 m) .ok [] t))
       ∧ (∃ t, masked (fun n => { n with enabled := false }) t
         ∧ exec (.noticeWriteEnablesClear m) s = .next (taken s (.noticeWrite 0 2 m) .ok [] t))
       ∧ (∃ t, masked (fun n => { n with raised := true, count := min 255 (n.count + 1) }) t
         ∧ exec (.noticeWritePendingSet m) s = .next (taken s (.noticeWrite 1 1 m) .ok [] t))
       ∧ (∃ t, masked (fun n => { n with raised := false, count := 0 }) t
         ∧ exec (.noticeWritePendingClear m) s = .next (taken s (.noticeWrite 1 2 m) .ok [] t)))
     ∧ exec (.noticeWriteMasterOn m) s = .next (taken s (.noticeWrite 2 1 m) .ok [] { s with masterEnable := true })
     ∧ exec (.noticeWriteMasterOff m) s = .next (taken s (.noticeWrite 2 2 m) .ok [] { s with masterEnable := false })
     ∧ (∀ target action : Byte,
         2 < target.toNat ∨ (action ≠ 1#8 ∧ action ≠ 2#8) ∨ (target ≠ 2#8 ∧ 4096 ≤ m.toNat) →
         exec (.noticeWriteRefused target action m) s = .next (taken s (.noticeWrite target action m) .badField [] s))
     ∧ ∃ result, NoticeLayout s result ∧ exec .noticeRead s = .next (taken s .noticeRead .ok result s))

/-- CORRIDOR_CLEAR (R55, R123, R168): every slot vacant, the occupied ones with the next generation; the evaluation queue and
the passage table empty; every grant ended, the accepted ones with a RELEASE queued and the cycle adjustment changed, an
unsent offer taken out of the queue; every order empty. The response is OK, and everything R168 lists is kept. The directive
queue keeps its other entries and their order, a RELEASE already queued for an accepted grant's junction taking the grant tag
(R118) and any other staying as it is (R155); the new RELEASEs follow, and an IDLE transmitter begins to send the first
(R156, R157). Their order among themselves is free, and the count of free values moves on by one: the model's choice
(log 12). -/
def Obligations.CorridorClearEmptiesTheTable : Prop :=
  ∀ s : State, ¬Busy s → TableConsistent s → DirectivesSound s →
    (∀ j : JunctionId, ∀ g ∈ (junctionAt s j).grant, g.step < (activeSteps (junctionAt s j)).length) →
    ∃ t, exec .corridorClear s = .next (taken s .corridorClear .ok [] t)
      ∧ (∀ i : SlotId, recordAt t i = none
          ∧ (slotAt t i).generation = (slotAt s i).generation + if (recordAt s i).isSome then 1 else 0)
      ∧ t.evalQueue = [] ∧ t.passages = []
      ∧ (∀ j : JunctionId,
          (let c := junctionAt s j
           let unsent := s.directives.any fun d => decide (d.junction = j) && !d.sending && isGrantKind d.kind
           let c' : Junction :=
             { c with grant := none, candidates := [], changeCount := c.changeCount + byteOf c.candidates.length }
           junctionAt t j =
             match c.grant with
             | none => c'
             | some g =>
               if g.accepted then
                 { c' with releaseQueued := true, adjustment := adjusted c.adjustment (giveBack s.time c g) }
               else if unsent then { c' with outstanding := none, acceptDeadline := none }
               else c'))
      ∧ (∀ j : JunctionId, ∀ g ∈ (junctionAt s j).grant, g.accepted = true →
          ∃ tag, grantTagAt s g.slot = some tag ∧ ReleaseQueued t j tag)
      ∧ (let dropped := fun d : Directive =>
           !d.sending && isGrantKind d.kind && (junctionAt s d.junction).grant.any fun g => !g.accepted
         let retagged := fun d : Directive =>
           match (junctionAt s d.junction).grant with
           | some g =>
             if g.accepted = true ∧ d.kind = .release then { d with tag := (grantTagAt s g.slot).getD d.tag } else d
           | none => d
         ∃ new : List Directive,
           t.directives = (s.directives.filter fun d => !dropped d).map retagged ++ new
           ∧ (new.map Directive.junction).Nodup
           ∧ (∀ j : JunctionId, j ∈ new.map Directive.junction ↔
               (junctionAt s j).releaseQueued = false ∧ ∃ g ∈ (junctionAt s j).grant, g.accepted = true)
           ∧ (∀ d ∈ new, d.kind = .release
               ∧ ∀ g ∈ (junctionAt s d.junction).grant, grantTagAt s g.slot = some d.tag)
           ∧ (s.transmitter.isSome = true ∨ new = [] →
               t.transmitter = s.transmitter ∧ ∀ d ∈ new, d.sending = false)
           ∧ (s.transmitter = none → ∀ d l, new = d :: l → d.sending = true ∧ (∀ e ∈ l, e.sending = false)
               ∧ ∃ frame : List Byte, DirectiveLayout d frame
                   ∧ t.transmitter = some { frame := frame, since := s.time }))
      ∧ t.notices = s.notices
      ∧ outside t = { outside s with passages := [], freeCount := s.freeCount + 1 }

end Statements
end

