-- ==== Sys2Proof/Laws/State.lean ====
section
/-! SUPPORT. The small lemmas of State's updates: which field each leaves, and what a view of the updated state
reads. -/

namespace Sys2Proof.Machine

/-! ### A junction context -/

@[simp] theorem onJunction_time (j : JunctionId) (f : Junction → Junction) (s : State) : (onJunction j f s).time = s.time := rfl
@[simp] theorem onJunction_slots (j : JunctionId) (f : Junction → Junction) (s : State) : (onJunction j f s).slots = s.slots := rfl
@[simp] theorem onJunction_segments (j : JunctionId) (f : Junction → Junction) (s : State) : (onJunction j f s).segments = s.segments := rfl
@[simp] theorem onJunction_passages (j : JunctionId) (f : Junction → Junction) (s : State) : (onJunction j f s).passages = s.passages := rfl
@[simp] theorem onJunction_evalQueue (j : JunctionId) (f : Junction → Junction) (s : State) : (onJunction j f s).evalQueue = s.evalQueue := rfl
@[simp] theorem onJunction_flight (j : JunctionId) (f : Junction → Junction) (s : State) : (onJunction j f s).flight = s.flight := rfl
@[simp] theorem onJunction_directives (j : JunctionId) (f : Junction → Junction) (s : State) : (onJunction j f s).directives = s.directives := rfl
@[simp] theorem onJunction_transmitter (j : JunctionId) (f : Junction → Junction) (s : State) : (onJunction j f s).transmitter = s.transmitter := rfl
@[simp] theorem onJunction_detectionRx (j : JunctionId) (f : Junction → Junction) (s : State) : (onJunction j f s).detectionRx = s.detectionRx := rfl
@[simp] theorem onJunction_junctionRx (j : JunctionId) (f : Junction → Junction) (s : State) : (onJunction j f s).junctionRx = s.junctionRx := rfl
@[simp] theorem onJunction_policy (j : JunctionId) (f : Junction → Junction) (s : State) : (onJunction j f s).policy = s.policy := rfl
@[simp] theorem onJunction_port (j : JunctionId) (f : Junction → Junction) (s : State) : (onJunction j f s).port = s.port := rfl
@[simp] theorem onJunction_spiDriven (j : JunctionId) (f : Junction → Junction) (s : State) : (onJunction j f s).spiDriven = s.spiDriven := rfl
@[simp] theorem onJunction_cursor (j : JunctionId) (f : Junction → Junction) (s : State) : (onJunction j f s).cursor = s.cursor := rfl
@[simp] theorem onJunction_notices (j : JunctionId) (f : Junction → Junction) (s : State) : (onJunction j f s).notices = s.notices := rfl
@[simp] theorem onJunction_masterEnable (j : JunctionId) (f : Junction → Junction) (s : State) : (onJunction j f s).masterEnable = s.masterEnable := rfl
@[simp] theorem onJunction_freeCount (j : JunctionId) (f : Junction → Junction) (s : State) : (onJunction j f s).freeCount = s.freeCount := rfl
@[simp] theorem onJunction_pending (j : JunctionId) (f : Junction → Junction) (s : State) : (onJunction j f s).pending = s.pending := rfl

/-! ### Slots and records -/

@[simp] theorem onSlot_time (i : SlotId) (f : Slot → Slot) (s : State) : (onSlot i f s).time = s.time := rfl
@[simp] theorem onSlot_junctions (i : SlotId) (f : Slot → Slot) (s : State) : (onSlot i f s).junctions = s.junctions := rfl
@[simp] theorem onSlot_segments (i : SlotId) (f : Slot → Slot) (s : State) : (onSlot i f s).segments = s.segments := rfl
@[simp] theorem onSlot_passages (i : SlotId) (f : Slot → Slot) (s : State) : (onSlot i f s).passages = s.passages := rfl
@[simp] theorem onSlot_evalQueue (i : SlotId) (f : Slot → Slot) (s : State) : (onSlot i f s).evalQueue = s.evalQueue := rfl
@[simp] theorem onSlot_flight (i : SlotId) (f : Slot → Slot) (s : State) : (onSlot i f s).flight = s.flight := rfl
@[simp] theorem onSlot_directives (i : SlotId) (f : Slot → Slot) (s : State) : (onSlot i f s).directives = s.directives := rfl
@[simp] theorem onSlot_transmitter (i : SlotId) (f : Slot → Slot) (s : State) : (onSlot i f s).transmitter = s.transmitter := rfl
@[simp] theorem onSlot_detectionRx (i : SlotId) (f : Slot → Slot) (s : State) : (onSlot i f s).detectionRx = s.detectionRx := rfl
@[simp] theorem onSlot_junctionRx (i : SlotId) (f : Slot → Slot) (s : State) : (onSlot i f s).junctionRx = s.junctionRx := rfl
@[simp] theorem onSlot_policy (i : SlotId) (f : Slot → Slot) (s : State) : (onSlot i f s).policy = s.policy := rfl
@[simp] theorem onSlot_port (i : SlotId) (f : Slot → Slot) (s : State) : (onSlot i f s).port = s.port := rfl
@[simp] theorem onSlot_spiDriven (i : SlotId) (f : Slot → Slot) (s : State) : (onSlot i f s).spiDriven = s.spiDriven := rfl
@[simp] theorem onSlot_cursor (i : SlotId) (f : Slot → Slot) (s : State) : (onSlot i f s).cursor = s.cursor := rfl
@[simp] theorem onSlot_notices (i : SlotId) (f : Slot → Slot) (s : State) : (onSlot i f s).notices = s.notices := rfl
@[simp] theorem onSlot_masterEnable (i : SlotId) (f : Slot → Slot) (s : State) : (onSlot i f s).masterEnable = s.masterEnable := rfl
@[simp] theorem onSlot_freeCount (i : SlotId) (f : Slot → Slot) (s : State) : (onSlot i f s).freeCount = s.freeCount := rfl
@[simp] theorem onSlot_pending (i : SlotId) (f : Slot → Slot) (s : State) : (onSlot i f s).pending = s.pending := rfl
@[simp] theorem onRecord_time (i : SlotId) (f : Record → Record) (s : State) : (onRecord i f s).time = s.time := rfl
@[simp] theorem onRecord_junctions (i : SlotId) (f : Record → Record) (s : State) : (onRecord i f s).junctions = s.junctions := rfl
@[simp] theorem onRecord_segments (i : SlotId) (f : Record → Record) (s : State) : (onRecord i f s).segments = s.segments := rfl
@[simp] theorem onRecord_passages (i : SlotId) (f : Record → Record) (s : State) : (onRecord i f s).passages = s.passages := rfl
@[simp] theorem onRecord_evalQueue (i : SlotId) (f : Record → Record) (s : State) : (onRecord i f s).evalQueue = s.evalQueue := rfl
@[simp] theorem onRecord_flight (i : SlotId) (f : Record → Record) (s : State) : (onRecord i f s).flight = s.flight := rfl
@[simp] theorem onRecord_directives (i : SlotId) (f : Record → Record) (s : State) : (onRecord i f s).directives = s.directives := rfl
@[simp] theorem onRecord_transmitter (i : SlotId) (f : Record → Record) (s : State) : (onRecord i f s).transmitter = s.transmitter := rfl
@[simp] theorem onRecord_detectionRx (i : SlotId) (f : Record → Record) (s : State) : (onRecord i f s).detectionRx = s.detectionRx := rfl
@[simp] theorem onRecord_junctionRx (i : SlotId) (f : Record → Record) (s : State) : (onRecord i f s).junctionRx = s.junctionRx := rfl
@[simp] theorem onRecord_policy (i : SlotId) (f : Record → Record) (s : State) : (onRecord i f s).policy = s.policy := rfl
@[simp] theorem onRecord_port (i : SlotId) (f : Record → Record) (s : State) : (onRecord i f s).port = s.port := rfl
@[simp] theorem onRecord_spiDriven (i : SlotId) (f : Record → Record) (s : State) : (onRecord i f s).spiDriven = s.spiDriven := rfl
@[simp] theorem onRecord_cursor (i : SlotId) (f : Record → Record) (s : State) : (onRecord i f s).cursor = s.cursor := rfl
@[simp] theorem onRecord_notices (i : SlotId) (f : Record → Record) (s : State) : (onRecord i f s).notices = s.notices := rfl
@[simp] theorem onRecord_masterEnable (i : SlotId) (f : Record → Record) (s : State) : (onRecord i f s).masterEnable = s.masterEnable := rfl
@[simp] theorem onRecord_freeCount (i : SlotId) (f : Record → Record) (s : State) : (onRecord i f s).freeCount = s.freeCount := rfl
@[simp] theorem onRecord_pending (i : SlotId) (f : Record → Record) (s : State) : (onRecord i f s).pending = s.pending := rfl
@[simp] theorem onRecordsWhere_time (p : Record → Bool) (f : Record → Record) (s : State) : (onRecordsWhere p f s).time = s.time := rfl
@[simp] theorem onRecordsWhere_junctions (p : Record → Bool) (f : Record → Record) (s : State) : (onRecordsWhere p f s).junctions = s.junctions := rfl
@[simp] theorem onRecordsWhere_segments (p : Record → Bool) (f : Record → Record) (s : State) : (onRecordsWhere p f s).segments = s.segments := rfl
@[simp] theorem onRecordsWhere_passages (p : Record → Bool) (f : Record → Record) (s : State) : (onRecordsWhere p f s).passages = s.passages := rfl
@[simp] theorem onRecordsWhere_evalQueue (p : Record → Bool) (f : Record → Record) (s : State) : (onRecordsWhere p f s).evalQueue = s.evalQueue := rfl
@[simp] theorem onRecordsWhere_flight (p : Record → Bool) (f : Record → Record) (s : State) : (onRecordsWhere p f s).flight = s.flight := rfl
@[simp] theorem onRecordsWhere_directives (p : Record → Bool) (f : Record → Record) (s : State) : (onRecordsWhere p f s).directives = s.directives := rfl
@[simp] theorem onRecordsWhere_transmitter (p : Record → Bool) (f : Record → Record) (s : State) : (onRecordsWhere p f s).transmitter = s.transmitter := rfl
@[simp] theorem onRecordsWhere_detectionRx (p : Record → Bool) (f : Record → Record) (s : State) : (onRecordsWhere p f s).detectionRx = s.detectionRx := rfl
@[simp] theorem onRecordsWhere_junctionRx (p : Record → Bool) (f : Record → Record) (s : State) : (onRecordsWhere p f s).junctionRx = s.junctionRx := rfl
@[simp] theorem onRecordsWhere_policy (p : Record → Bool) (f : Record → Record) (s : State) : (onRecordsWhere p f s).policy = s.policy := rfl
@[simp] theorem onRecordsWhere_port (p : Record → Bool) (f : Record → Record) (s : State) : (onRecordsWhere p f s).port = s.port := rfl
@[simp] theorem onRecordsWhere_spiDriven (p : Record → Bool) (f : Record → Record) (s : State) : (onRecordsWhere p f s).spiDriven = s.spiDriven := rfl
@[simp] theorem onRecordsWhere_cursor (p : Record → Bool) (f : Record → Record) (s : State) : (onRecordsWhere p f s).cursor = s.cursor := rfl
@[simp] theorem onRecordsWhere_notices (p : Record → Bool) (f : Record → Record) (s : State) : (onRecordsWhere p f s).notices = s.notices := rfl
@[simp] theorem onRecordsWhere_masterEnable (p : Record → Bool) (f : Record → Record) (s : State) : (onRecordsWhere p f s).masterEnable = s.masterEnable := rfl
@[simp] theorem onRecordsWhere_freeCount (p : Record → Bool) (f : Record → Record) (s : State) : (onRecordsWhere p f s).freeCount = s.freeCount := rfl
@[simp] theorem onRecordsWhere_pending (p : Record → Bool) (f : Record → Record) (s : State) : (onRecordsWhere p f s).pending = s.pending := rfl

/-! ### Segments -/

@[simp] theorem setSegment_time (k : SegmentId) (g : Option Segment) (s : State) : (setSegment k g s).time = s.time := rfl
@[simp] theorem setSegment_slots (k : SegmentId) (g : Option Segment) (s : State) : (setSegment k g s).slots = s.slots := rfl
@[simp] theorem setSegment_junctions (k : SegmentId) (g : Option Segment) (s : State) : (setSegment k g s).junctions = s.junctions := rfl
@[simp] theorem setSegment_passages (k : SegmentId) (g : Option Segment) (s : State) : (setSegment k g s).passages = s.passages := rfl
@[simp] theorem setSegment_evalQueue (k : SegmentId) (g : Option Segment) (s : State) : (setSegment k g s).evalQueue = s.evalQueue := rfl
@[simp] theorem setSegment_flight (k : SegmentId) (g : Option Segment) (s : State) : (setSegment k g s).flight = s.flight := rfl
@[simp] theorem setSegment_directives (k : SegmentId) (g : Option Segment) (s : State) : (setSegment k g s).directives = s.directives := rfl
@[simp] theorem setSegment_transmitter (k : SegmentId) (g : Option Segment) (s : State) : (setSegment k g s).transmitter = s.transmitter := rfl
@[simp] theorem setSegment_detectionRx (k : SegmentId) (g : Option Segment) (s : State) : (setSegment k g s).detectionRx = s.detectionRx := rfl
@[simp] theorem setSegment_junctionRx (k : SegmentId) (g : Option Segment) (s : State) : (setSegment k g s).junctionRx = s.junctionRx := rfl
@[simp] theorem setSegment_policy (k : SegmentId) (g : Option Segment) (s : State) : (setSegment k g s).policy = s.policy := rfl
@[simp] theorem setSegment_port (k : SegmentId) (g : Option Segment) (s : State) : (setSegment k g s).port = s.port := rfl
@[simp] theorem setSegment_spiDriven (k : SegmentId) (g : Option Segment) (s : State) : (setSegment k g s).spiDriven = s.spiDriven := rfl
@[simp] theorem setSegment_cursor (k : SegmentId) (g : Option Segment) (s : State) : (setSegment k g s).cursor = s.cursor := rfl
@[simp] theorem setSegment_notices (k : SegmentId) (g : Option Segment) (s : State) : (setSegment k g s).notices = s.notices := rfl
@[simp] theorem setSegment_masterEnable (k : SegmentId) (g : Option Segment) (s : State) : (setSegment k g s).masterEnable = s.masterEnable := rfl
@[simp] theorem setSegment_freeCount (k : SegmentId) (g : Option Segment) (s : State) : (setSegment k g s).freeCount = s.freeCount := rfl
@[simp] theorem setSegment_pending (k : SegmentId) (g : Option Segment) (s : State) : (setSegment k g s).pending = s.pending := rfl

/-! ### Notices -/

@[simp] theorem onNotice_time (c : Category) (f : Notice → Notice) (s : State) : (onNotice c f s).time = s.time := rfl
@[simp] theorem onNotice_slots (c : Category) (f : Notice → Notice) (s : State) : (onNotice c f s).slots = s.slots := rfl
@[simp] theorem onNotice_junctions (c : Category) (f : Notice → Notice) (s : State) : (onNotice c f s).junctions = s.junctions := rfl
@[simp] theorem onNotice_segments (c : Category) (f : Notice → Notice) (s : State) : (onNotice c f s).segments = s.segments := rfl
@[simp] theorem onNotice_passages (c : Category) (f : Notice → Notice) (s : State) : (onNotice c f s).passages = s.passages := rfl
@[simp] theorem onNotice_evalQueue (c : Category) (f : Notice → Notice) (s : State) : (onNotice c f s).evalQueue = s.evalQueue := rfl
@[simp] theorem onNotice_flight (c : Category) (f : Notice → Notice) (s : State) : (onNotice c f s).flight = s.flight := rfl
@[simp] theorem onNotice_directives (c : Category) (f : Notice → Notice) (s : State) : (onNotice c f s).directives = s.directives := rfl
@[simp] theorem onNotice_transmitter (c : Category) (f : Notice → Notice) (s : State) : (onNotice c f s).transmitter = s.transmitter := rfl
@[simp] theorem onNotice_detectionRx (c : Category) (f : Notice → Notice) (s : State) : (onNotice c f s).detectionRx = s.detectionRx := rfl
@[simp] theorem onNotice_junctionRx (c : Category) (f : Notice → Notice) (s : State) : (onNotice c f s).junctionRx = s.junctionRx := rfl
@[simp] theorem onNotice_policy (c : Category) (f : Notice → Notice) (s : State) : (onNotice c f s).policy = s.policy := rfl
@[simp] theorem onNotice_port (c : Category) (f : Notice → Notice) (s : State) : (onNotice c f s).port = s.port := rfl
@[simp] theorem onNotice_spiDriven (c : Category) (f : Notice → Notice) (s : State) : (onNotice c f s).spiDriven = s.spiDriven := rfl
@[simp] theorem onNotice_cursor (c : Category) (f : Notice → Notice) (s : State) : (onNotice c f s).cursor = s.cursor := rfl
@[simp] theorem onNotice_masterEnable (c : Category) (f : Notice → Notice) (s : State) : (onNotice c f s).masterEnable = s.masterEnable := rfl
@[simp] theorem onNotice_freeCount (c : Category) (f : Notice → Notice) (s : State) : (onNotice c f s).freeCount = s.freeCount := rfl
@[simp] theorem onNotice_pending (c : Category) (f : Notice → Notice) (s : State) : (onNotice c f s).pending = s.pending := rfl
@[simp] theorem raise_time (c : Category) (s : State) : (raise c s).time = s.time := rfl
@[simp] theorem raise_slots (c : Category) (s : State) : (raise c s).slots = s.slots := rfl
@[simp] theorem raise_junctions (c : Category) (s : State) : (raise c s).junctions = s.junctions := rfl
@[simp] theorem raise_segments (c : Category) (s : State) : (raise c s).segments = s.segments := rfl
@[simp] theorem raise_passages (c : Category) (s : State) : (raise c s).passages = s.passages := rfl
@[simp] theorem raise_evalQueue (c : Category) (s : State) : (raise c s).evalQueue = s.evalQueue := rfl
@[simp] theorem raise_flight (c : Category) (s : State) : (raise c s).flight = s.flight := rfl
@[simp] theorem raise_directives (c : Category) (s : State) : (raise c s).directives = s.directives := rfl
@[simp] theorem raise_transmitter (c : Category) (s : State) : (raise c s).transmitter = s.transmitter := rfl
@[simp] theorem raise_detectionRx (c : Category) (s : State) : (raise c s).detectionRx = s.detectionRx := rfl
@[simp] theorem raise_junctionRx (c : Category) (s : State) : (raise c s).junctionRx = s.junctionRx := rfl
@[simp] theorem raise_policy (c : Category) (s : State) : (raise c s).policy = s.policy := rfl
@[simp] theorem raise_port (c : Category) (s : State) : (raise c s).port = s.port := rfl
@[simp] theorem raise_spiDriven (c : Category) (s : State) : (raise c s).spiDriven = s.spiDriven := rfl
@[simp] theorem raise_cursor (c : Category) (s : State) : (raise c s).cursor = s.cursor := rfl
@[simp] theorem raise_masterEnable (c : Category) (s : State) : (raise c s).masterEnable = s.masterEnable := rfl
@[simp] theorem raise_freeCount (c : Category) (s : State) : (raise c s).freeCount = s.freeCount := rfl
@[simp] theorem raise_pending (c : Category) (s : State) : (raise c s).pending = s.pending := rfl
@[simp] theorem raiseIf_time (b : Bool) (c : Category) (s : State) : (raiseIf b c s).time = s.time := by cases b <;> rfl
@[simp] theorem raiseIf_slots (b : Bool) (c : Category) (s : State) : (raiseIf b c s).slots = s.slots := by cases b <;> rfl
@[simp] theorem raiseIf_junctions (b : Bool) (c : Category) (s : State) : (raiseIf b c s).junctions = s.junctions := by cases b <;> rfl
@[simp] theorem raiseIf_segments (b : Bool) (c : Category) (s : State) : (raiseIf b c s).segments = s.segments := by cases b <;> rfl
@[simp] theorem raiseIf_passages (b : Bool) (c : Category) (s : State) : (raiseIf b c s).passages = s.passages := by cases b <;> rfl
@[simp] theorem raiseIf_evalQueue (b : Bool) (c : Category) (s : State) : (raiseIf b c s).evalQueue = s.evalQueue := by cases b <;> rfl
@[simp] theorem raiseIf_flight (b : Bool) (c : Category) (s : State) : (raiseIf b c s).flight = s.flight := by cases b <;> rfl
@[simp] theorem raiseIf_directives (b : Bool) (c : Category) (s : State) : (raiseIf b c s).directives = s.directives := by cases b <;> rfl
@[simp] theorem raiseIf_transmitter (b : Bool) (c : Category) (s : State) : (raiseIf b c s).transmitter = s.transmitter := by cases b <;> rfl
@[simp] theorem raiseIf_detectionRx (b : Bool) (c : Category) (s : State) : (raiseIf b c s).detectionRx = s.detectionRx := by cases b <;> rfl
@[simp] theorem raiseIf_junctionRx (b : Bool) (c : Category) (s : State) : (raiseIf b c s).junctionRx = s.junctionRx := by cases b <;> rfl
@[simp] theorem raiseIf_policy (b : Bool) (c : Category) (s : State) : (raiseIf b c s).policy = s.policy := by cases b <;> rfl
@[simp] theorem raiseIf_port (b : Bool) (c : Category) (s : State) : (raiseIf b c s).port = s.port := by cases b <;> rfl
@[simp] theorem raiseIf_spiDriven (b : Bool) (c : Category) (s : State) : (raiseIf b c s).spiDriven = s.spiDriven := by cases b <;> rfl
@[simp] theorem raiseIf_cursor (b : Bool) (c : Category) (s : State) : (raiseIf b c s).cursor = s.cursor := by cases b <;> rfl
@[simp] theorem raiseIf_masterEnable (b : Bool) (c : Category) (s : State) : (raiseIf b c s).masterEnable = s.masterEnable := by cases b <;> rfl
@[simp] theorem raiseIf_freeCount (b : Bool) (c : Category) (s : State) : (raiseIf b c s).freeCount = s.freeCount := by cases b <;> rfl
@[simp] theorem raiseIf_pending (b : Bool) (c : Category) (s : State) : (raiseIf b c s).pending = s.pending := by cases b <;> rfl

/-! ### The evaluation queue -/

@[simp] theorem enqueue_time (i : SlotId) (s : State) : (enqueue i s).time = s.time := by
  unfold enqueue; split <;> rfl
@[simp] theorem enqueue_slots (i : SlotId) (s : State) : (enqueue i s).slots = s.slots := by
  unfold enqueue; split <;> rfl
@[simp] theorem enqueue_junctions (i : SlotId) (s : State) : (enqueue i s).junctions = s.junctions := by
  unfold enqueue; split <;> rfl
@[simp] theorem enqueue_segments (i : SlotId) (s : State) : (enqueue i s).segments = s.segments := by
  unfold enqueue; split <;> rfl
@[simp] theorem enqueue_passages (i : SlotId) (s : State) : (enqueue i s).passages = s.passages := by
  unfold enqueue; split <;> rfl
@[simp] theorem enqueue_flight (i : SlotId) (s : State) : (enqueue i s).flight = s.flight := by
  unfold enqueue; split <;> rfl
@[simp] theorem enqueue_directives (i : SlotId) (s : State) : (enqueue i s).directives = s.directives := by
  unfold enqueue; split <;> rfl
@[simp] theorem enqueue_transmitter (i : SlotId) (s : State) : (enqueue i s).transmitter = s.transmitter := by
  unfold enqueue; split <;> rfl
@[simp] theorem enqueue_detectionRx (i : SlotId) (s : State) : (enqueue i s).detectionRx = s.detectionRx := by
  unfold enqueue; split <;> rfl
@[simp] theorem enqueue_junctionRx (i : SlotId) (s : State) : (enqueue i s).junctionRx = s.junctionRx := by
  unfold enqueue; split <;> rfl
@[simp] theorem enqueue_policy (i : SlotId) (s : State) : (enqueue i s).policy = s.policy := by
  unfold enqueue; split <;> rfl
@[simp] theorem enqueue_port (i : SlotId) (s : State) : (enqueue i s).port = s.port := by
  unfold enqueue; split <;> rfl
@[simp] theorem enqueue_spiDriven (i : SlotId) (s : State) : (enqueue i s).spiDriven = s.spiDriven := by
  unfold enqueue; split <;> rfl
@[simp] theorem enqueue_cursor (i : SlotId) (s : State) : (enqueue i s).cursor = s.cursor := by
  unfold enqueue; split <;> rfl
@[simp] theorem enqueue_notices (i : SlotId) (s : State) : (enqueue i s).notices = s.notices := by
  unfold enqueue; split <;> rfl
@[simp] theorem enqueue_masterEnable (i : SlotId) (s : State) : (enqueue i s).masterEnable = s.masterEnable := by
  unfold enqueue; split <;> rfl
@[simp] theorem enqueue_freeCount (i : SlotId) (s : State) : (enqueue i s).freeCount = s.freeCount := by
  unfold enqueue; split <;> rfl
@[simp] theorem enqueue_pending (i : SlotId) (s : State) : (enqueue i s).pending = s.pending := by
  unfold enqueue; split <;> rfl
@[simp] theorem dequeue_time (i : SlotId) (s : State) : (dequeue i s).time = s.time := rfl
@[simp] theorem dequeue_slots (i : SlotId) (s : State) : (dequeue i s).slots = s.slots := rfl
@[simp] theorem dequeue_junctions (i : SlotId) (s : State) : (dequeue i s).junctions = s.junctions := rfl
@[simp] theorem dequeue_segments (i : SlotId) (s : State) : (dequeue i s).segments = s.segments := rfl
@[simp] theorem dequeue_passages (i : SlotId) (s : State) : (dequeue i s).passages = s.passages := rfl
@[simp] theorem dequeue_flight (i : SlotId) (s : State) : (dequeue i s).flight = s.flight := rfl
@[simp] theorem dequeue_directives (i : SlotId) (s : State) : (dequeue i s).directives = s.directives := rfl
@[simp] theorem dequeue_transmitter (i : SlotId) (s : State) : (dequeue i s).transmitter = s.transmitter := rfl
@[simp] theorem dequeue_detectionRx (i : SlotId) (s : State) : (dequeue i s).detectionRx = s.detectionRx := rfl
@[simp] theorem dequeue_junctionRx (i : SlotId) (s : State) : (dequeue i s).junctionRx = s.junctionRx := rfl
@[simp] theorem dequeue_policy (i : SlotId) (s : State) : (dequeue i s).policy = s.policy := rfl
@[simp] theorem dequeue_port (i : SlotId) (s : State) : (dequeue i s).port = s.port := rfl
@[simp] theorem dequeue_spiDriven (i : SlotId) (s : State) : (dequeue i s).spiDriven = s.spiDriven := rfl
@[simp] theorem dequeue_cursor (i : SlotId) (s : State) : (dequeue i s).cursor = s.cursor := rfl
@[simp] theorem dequeue_notices (i : SlotId) (s : State) : (dequeue i s).notices = s.notices := rfl
@[simp] theorem dequeue_masterEnable (i : SlotId) (s : State) : (dequeue i s).masterEnable = s.masterEnable := rfl
@[simp] theorem dequeue_freeCount (i : SlotId) (s : State) : (dequeue i s).freeCount = s.freeCount := rfl
@[simp] theorem dequeue_pending (i : SlotId) (s : State) : (dequeue i s).pending = s.pending := rfl

/-! ### The directive queue and the transmitter -/

@[simp] theorem dropWaiting_time (j : JunctionId) (p : DirectiveKind → Bool) (s : State) : (dropWaiting j p s).time = s.time := rfl
@[simp] theorem dropWaiting_slots (j : JunctionId) (p : DirectiveKind → Bool) (s : State) : (dropWaiting j p s).slots = s.slots := rfl
@[simp] theorem dropWaiting_junctions (j : JunctionId) (p : DirectiveKind → Bool) (s : State) : (dropWaiting j p s).junctions = s.junctions := rfl
@[simp] theorem dropWaiting_segments (j : JunctionId) (p : DirectiveKind → Bool) (s : State) : (dropWaiting j p s).segments = s.segments := rfl
@[simp] theorem dropWaiting_passages (j : JunctionId) (p : DirectiveKind → Bool) (s : State) : (dropWaiting j p s).passages = s.passages := rfl
@[simp] theorem dropWaiting_evalQueue (j : JunctionId) (p : DirectiveKind → Bool) (s : State) : (dropWaiting j p s).evalQueue = s.evalQueue := rfl
@[simp] theorem dropWaiting_flight (j : JunctionId) (p : DirectiveKind → Bool) (s : State) : (dropWaiting j p s).flight = s.flight := rfl
@[simp] theorem dropWaiting_transmitter (j : JunctionId) (p : DirectiveKind → Bool) (s : State) : (dropWaiting j p s).transmitter = s.transmitter := rfl
@[simp] theorem dropWaiting_detectionRx (j : JunctionId) (p : DirectiveKind → Bool) (s : State) : (dropWaiting j p s).detectionRx = s.detectionRx := rfl
@[simp] theorem dropWaiting_junctionRx (j : JunctionId) (p : DirectiveKind → Bool) (s : State) : (dropWaiting j p s).junctionRx = s.junctionRx := rfl
@[simp] theorem dropWaiting_policy (j : JunctionId) (p : DirectiveKind → Bool) (s : State) : (dropWaiting j p s).policy = s.policy := rfl
@[simp] theorem dropWaiting_port (j : JunctionId) (p : DirectiveKind → Bool) (s : State) : (dropWaiting j p s).port = s.port := rfl
@[simp] theorem dropWaiting_spiDriven (j : JunctionId) (p : DirectiveKind → Bool) (s : State) : (dropWaiting j p s).spiDriven = s.spiDriven := rfl
@[simp] theorem dropWaiting_cursor (j : JunctionId) (p : DirectiveKind → Bool) (s : State) : (dropWaiting j p s).cursor = s.cursor := rfl
@[simp] theorem dropWaiting_notices (j : JunctionId) (p : DirectiveKind → Bool) (s : State) : (dropWaiting j p s).notices = s.notices := rfl
@[simp] theorem dropWaiting_masterEnable (j : JunctionId) (p : DirectiveKind → Bool) (s : State) : (dropWaiting j p s).masterEnable = s.masterEnable := rfl
@[simp] theorem dropWaiting_freeCount (j : JunctionId) (p : DirectiveKind → Bool) (s : State) : (dropWaiting j p s).freeCount = s.freeCount := rfl
@[simp] theorem dropWaiting_pending (j : JunctionId) (p : DirectiveKind → Bool) (s : State) : (dropWaiting j p s).pending = s.pending := rfl
@[simp] theorem transmitNext_time (now : Time) (s : State) : (transmitNext now s).time = s.time := by
  unfold transmitNext; repeat' split
  all_goals rfl
@[simp] theorem transmitNext_slots (now : Time) (s : State) : (transmitNext now s).slots = s.slots := by
  unfold transmitNext; repeat' split
  all_goals rfl
@[simp] theorem transmitNext_junctions (now : Time) (s : State) : (transmitNext now s).junctions = s.junctions := by
  unfold transmitNext; repeat' split
  all_goals rfl
@[simp] theorem transmitNext_segments (now : Time) (s : State) : (transmitNext now s).segments = s.segments := by
  unfold transmitNext; repeat' split
  all_goals rfl
@[simp] theorem transmitNext_passages (now : Time) (s : State) : (transmitNext now s).passages = s.passages := by
  unfold transmitNext; repeat' split
  all_goals rfl
@[simp] theorem transmitNext_evalQueue (now : Time) (s : State) : (transmitNext now s).evalQueue = s.evalQueue := by
  unfold transmitNext; repeat' split
  all_goals rfl
@[simp] theorem transmitNext_flight (now : Time) (s : State) : (transmitNext now s).flight = s.flight := by
  unfold transmitNext; repeat' split
  all_goals rfl
@[simp] theorem transmitNext_detectionRx (now : Time) (s : State) : (transmitNext now s).detectionRx = s.detectionRx := by
  unfold transmitNext; repeat' split
  all_goals rfl
@[simp] theorem transmitNext_junctionRx (now : Time) (s : State) : (transmitNext now s).junctionRx = s.junctionRx := by
  unfold transmitNext; repeat' split
  all_goals rfl
@[simp] theorem transmitNext_policy (now : Time) (s : State) : (transmitNext now s).policy = s.policy := by
  unfold transmitNext; repeat' split
  all_goals rfl
@[simp] theorem transmitNext_port (now : Time) (s : State) : (transmitNext now s).port = s.port := by
  unfold transmitNext; repeat' split
  all_goals rfl
@[simp] theorem transmitNext_spiDriven (now : Time) (s : State) : (transmitNext now s).spiDriven = s.spiDriven := by
  unfold transmitNext; repeat' split
  all_goals rfl
@[simp] theorem transmitNext_cursor (now : Time) (s : State) : (transmitNext now s).cursor = s.cursor := by
  unfold transmitNext; repeat' split
  all_goals rfl
@[simp] theorem transmitNext_notices (now : Time) (s : State) : (transmitNext now s).notices = s.notices := by
  unfold transmitNext; repeat' split
  all_goals rfl
@[simp] theorem transmitNext_masterEnable (now : Time) (s : State) : (transmitNext now s).masterEnable = s.masterEnable := by
  unfold transmitNext; repeat' split
  all_goals rfl
@[simp] theorem transmitNext_freeCount (now : Time) (s : State) : (transmitNext now s).freeCount = s.freeCount := by
  unfold transmitNext; repeat' split
  all_goals rfl
@[simp] theorem transmitNext_pending (now : Time) (s : State) : (transmitNext now s).pending = s.pending := by
  unfold transmitNext; repeat' split
  all_goals rfl

/-! ### Views -/

theorem junctionAt_congr {s t : State} (h : t.junctions = s.junctions) (j : JunctionId) :
    junctionAt t j = junctionAt s j := by simp only [junctionAt, h]

theorem slotAt_congr {s t : State} (h : t.slots = s.slots) (i : SlotId) : slotAt t i = slotAt s i := by
  simp only [slotAt, h]

theorem recordAt_congr {s t : State} (h : t.slots = s.slots) (i : SlotId) : recordAt t i = recordAt s i := by
  simp only [recordAt, slotAt, h]

theorem segmentAt_congr {s t : State} (h : t.segments = s.segments) (k : SegmentId) :
    segmentAt t k = segmentAt s k := by simp only [segmentAt, h]

theorem junctionAt_onJunction (j k : JunctionId) (f : Junction → Junction) (s : State) :
    junctionAt (onJunction j f s) k = if j = k then f (junctionAt s k) else junctionAt s k := by
  simp only [junctionAt, onJunction, Fin.getElem_fin, Vector.getElem_set, Fin.val_inj]
  split
  · next h => subst h; rfl
  · rfl

@[simp] theorem junctionAt_onJunction_same (j : JunctionId) (f : Junction → Junction) (s : State) :
    junctionAt (onJunction j f s) j = f (junctionAt s j) := by simp [junctionAt_onJunction]

theorem junctionAt_onJunction_ne {j k : JunctionId} (h : j ≠ k) (f : Junction → Junction) (s : State) :
    junctionAt (onJunction j f s) k = junctionAt s k := by simp [junctionAt_onJunction, h]

theorem slotAt_onSlot (i k : SlotId) (f : Slot → Slot) (s : State) :
    slotAt (onSlot i f s) k = if i = k then f (slotAt s k) else slotAt s k := by
  simp only [slotAt, onSlot, Fin.getElem_fin, Vector.getElem_set, Fin.val_inj]
  split
  · next h => subst h; rfl
  · rfl

@[simp] theorem slotAt_onSlot_same (i : SlotId) (f : Slot → Slot) (s : State) :
    slotAt (onSlot i f s) i = f (slotAt s i) := by simp [slotAt_onSlot]

theorem slotAt_onRecord (i k : SlotId) (f : Record → Record) (s : State) :
    slotAt (onRecord i f s) k =
      if i = k then { slotAt s k with record := (slotAt s k).record.map f } else slotAt s k := slotAt_onSlot ..

theorem recordAt_onRecord (i k : SlotId) (f : Record → Record) (s : State) :
    recordAt (onRecord i f s) k = if i = k then (recordAt s k).map f else recordAt s k := by
  unfold recordAt; rw [slotAt_onRecord]; split <;> rfl

@[simp] theorem recordAt_onRecord_same (i : SlotId) (f : Record → Record) (s : State) :
    recordAt (onRecord i f s) i = (recordAt s i).map f := by simp [recordAt_onRecord]

@[simp] theorem generation_onRecord (i k : SlotId) (f : Record → Record) (s : State) :
    (slotAt (onRecord i f s) k).generation = (slotAt s k).generation := by
  rw [slotAt_onRecord]; split <;> rfl

theorem slotAt_onRecordsWhere (p : Record → Bool) (f : Record → Record) (s : State) (k : SlotId) :
    slotAt (onRecordsWhere p f s) k =
      { slotAt s k with record := (slotAt s k).record.map fun r => if p r then f r else r } := by
  simp [slotAt, onRecordsWhere]

theorem recordAt_onRecordsWhere (p : Record → Bool) (f : Record → Record) (s : State) (k : SlotId) :
    recordAt (onRecordsWhere p f s) k = (recordAt s k).map fun r => if p r then f r else r := by
  unfold recordAt; rw [slotAt_onRecordsWhere]

theorem segmentAt_setSegment (k m : SegmentId) (g : Option Segment) (s : State) :
    segmentAt (setSegment k g s) m = if k = m then g else segmentAt s m := by
  simp only [segmentAt, setSegment, Fin.getElem_fin, Vector.getElem_set, Fin.val_inj]

/-- A raise moves one category: its flag is set and its count rises, stopping at 255 (R166). -/
theorem notices_onNotice (c : Category) (f : Notice → Notice) (s : State) (k : Fin 12) :
    (onNotice c f s).notices[k] = if categoryBit c = k then f s.notices[k] else s.notices[k] := by
  simp only [onNotice, Fin.getElem_fin, Vector.getElem_set, Fin.val_inj]
  split
  · next h => subst h; rfl
  · rfl

theorem notices_raise (c : Category) (s : State) (k : Fin 12) :
    (raise c s).notices[k] = if categoryBit c = k then raisedNotice s.notices[k] else s.notices[k] :=
  notices_onNotice ..

/-! ### What an update of one part leaves of the views -/

@[simp] theorem slotAt_onJunction_frame (j : JunctionId) (f : Junction → Junction) (s : State) (k : SlotId) : slotAt (onJunction j f s) k = slotAt s k := slotAt_congr (by simp) k
@[simp] theorem recordAt_onJunction_frame (j : JunctionId) (f : Junction → Junction) (s : State) (k : SlotId) : recordAt (onJunction j f s) k = recordAt s k := recordAt_congr (by simp) k

@[simp] theorem junctionAt_onSlot_frame (i : SlotId) (f : Slot → Slot) (s : State) (k : JunctionId) : junctionAt (onSlot i f s) k = junctionAt s k := junctionAt_congr (by simp) k

@[simp] theorem junctionAt_onRecord_frame (i : SlotId) (f : Record → Record) (s : State) (k : JunctionId) : junctionAt (onRecord i f s) k = junctionAt s k := junctionAt_congr (by simp) k

@[simp] theorem junctionAt_onRecordsWhere_frame (p : Record → Bool) (f : Record → Record) (s : State) (k : JunctionId) : junctionAt (onRecordsWhere p f s) k = junctionAt s k := junctionAt_congr (by simp) k

@[simp] theorem junctionAt_setSegment (m : SegmentId) (g : Option Segment) (s : State) (k : JunctionId) : junctionAt (setSegment m g s) k = junctionAt s k := junctionAt_congr (by simp) k
@[simp] theorem slotAt_setSegment (m : SegmentId) (g : Option Segment) (s : State) (k : SlotId) : slotAt (setSegment m g s) k = slotAt s k := slotAt_congr (by simp) k
@[simp] theorem recordAt_setSegment (m : SegmentId) (g : Option Segment) (s : State) (k : SlotId) : recordAt (setSegment m g s) k = recordAt s k := recordAt_congr (by simp) k

@[simp] theorem junctionAt_raise (c : Category) (s : State) (k : JunctionId) : junctionAt (raise c s) k = junctionAt s k := junctionAt_congr (by simp) k
@[simp] theorem slotAt_raise (c : Category) (s : State) (k : SlotId) : slotAt (raise c s) k = slotAt s k := slotAt_congr (by simp) k
@[simp] theorem recordAt_raise (c : Category) (s : State) (k : SlotId) : recordAt (raise c s) k = recordAt s k := recordAt_congr (by simp) k

@[simp] theorem junctionAt_raiseIf (b : Bool) (c : Category) (s : State) (k : JunctionId) : junctionAt (raiseIf b c s) k = junctionAt s k := junctionAt_congr (by simp) k
@[simp] theorem slotAt_raiseIf (b : Bool) (c : Category) (s : State) (k : SlotId) : slotAt (raiseIf b c s) k = slotAt s k := slotAt_congr (by simp) k
@[simp] theorem recordAt_raiseIf (b : Bool) (c : Category) (s : State) (k : SlotId) : recordAt (raiseIf b c s) k = recordAt s k := recordAt_congr (by simp) k

@[simp] theorem junctionAt_enqueue (i : SlotId) (s : State) (k : JunctionId) : junctionAt (enqueue i s) k = junctionAt s k := junctionAt_congr (by simp) k
@[simp] theorem slotAt_enqueue (i : SlotId) (s : State) (k : SlotId) : slotAt (enqueue i s) k = slotAt s k := slotAt_congr (by simp) k
@[simp] theorem recordAt_enqueue (i : SlotId) (s : State) (k : SlotId) : recordAt (enqueue i s) k = recordAt s k := recordAt_congr (by simp) k

@[simp] theorem junctionAt_dequeue (i : SlotId) (s : State) (k : JunctionId) : junctionAt (dequeue i s) k = junctionAt s k := junctionAt_congr (by simp) k
@[simp] theorem slotAt_dequeue (i : SlotId) (s : State) (k : SlotId) : slotAt (dequeue i s) k = slotAt s k := slotAt_congr (by simp) k
@[simp] theorem recordAt_dequeue (i : SlotId) (s : State) (k : SlotId) : recordAt (dequeue i s) k = recordAt s k := recordAt_congr (by simp) k

@[simp] theorem junctionAt_dropWaiting (j : JunctionId) (p : DirectiveKind → Bool) (s : State) (k : JunctionId) : junctionAt (dropWaiting j p s) k = junctionAt s k := junctionAt_congr (by simp) k
@[simp] theorem slotAt_dropWaiting (j : JunctionId) (p : DirectiveKind → Bool) (s : State) (k : SlotId) : slotAt (dropWaiting j p s) k = slotAt s k := slotAt_congr (by simp) k
@[simp] theorem recordAt_dropWaiting (j : JunctionId) (p : DirectiveKind → Bool) (s : State) (k : SlotId) : recordAt (dropWaiting j p s) k = recordAt s k := recordAt_congr (by simp) k

@[simp] theorem junctionAt_transmitNext (now : Time) (s : State) (k : JunctionId) : junctionAt (transmitNext now s) k = junctionAt s k := junctionAt_congr (by simp) k
@[simp] theorem slotAt_transmitNext (now : Time) (s : State) (k : SlotId) : slotAt (transmitNext now s) k = slotAt s k := slotAt_congr (by simp) k
@[simp] theorem recordAt_transmitNext (now : Time) (s : State) (k : SlotId) : recordAt (transmitNext now s) k = recordAt s k := recordAt_congr (by simp) k

end Sys2Proof.Machine
end

