-- ==== Sys2Proof/Laws/Frames.lean ====
section
/-! SUPPORT. What each shared operation leaves alone: the parts of the state outside the table, the junctions and the
queues, and those of the others it does not write. -/

namespace Sys2Proof.Machine

open Sys2Proof.Safety

/-! ### Updates of one part -/


@[simp] theorem outside_onJunction (j : JunctionId) (f : Junction → Junction) (s : State) : outside (onJunction j f s) = outside s := rfl

@[simp] theorem outside_onSlot (i : SlotId) (f : Slot → Slot) (s : State) : outside (onSlot i f s) = outside s := rfl

@[simp] theorem outside_onRecord (i : SlotId) (f : Record → Record) (s : State) : outside (onRecord i f s) = outside s := rfl

@[simp] theorem outside_onRecordsWhere (p : Record → Bool) (f : Record → Record) (s : State) : outside (onRecordsWhere p f s) = outside s := rfl

@[simp] theorem outside_onNotice (c : Category) (f : Notice → Notice) (s : State) : outside (onNotice c f s) = outside s := rfl

@[simp] theorem outside_raise (c : Category) (s : State) : outside (raise c s) = outside s := rfl

@[simp] theorem outside_raiseIf (b : Bool) (c : Category) (s : State) : outside (raiseIf b c s) = outside s := by cases b <;> rfl

@[simp] theorem outside_enqueue (i : SlotId) (s : State) : outside (enqueue i s) = outside s := by unfold enqueue; split <;> rfl

@[simp] theorem outside_dequeue (i : SlotId) (s : State) : outside (dequeue i s) = outside s := rfl

@[simp] theorem outside_dropWaiting (j : JunctionId) (p : DirectiveKind → Bool) (s : State) : outside (dropWaiting j p s) = outside s := rfl

@[simp] theorem outside_transmitNext (now : Time) (s : State) : outside (transmitNext now s) = outside s := by
  unfold transmitNext; repeat' split
  all_goals rfl


/-! ### Operations of the table, the junctions and the queues -/


@[simp] theorem outside_enqueueAll (l : List SlotId) (s : State) : outside (enqueueAll l s) = outside s := by
  unfold enqueueAll; induction l generalizing s with
  | nil => rfl
  | cons i l ih => simp [ih]

@[simp] theorem enqueueAll_slots (l : List SlotId) (s : State) : (enqueueAll l s).slots = s.slots := by
  unfold enqueueAll; induction l generalizing s with
  | nil => rfl
  | cons i l ih => simp [ih]

@[simp] theorem enqueueAll_junctions (l : List SlotId) (s : State) : (enqueueAll l s).junctions = s.junctions := by
  unfold enqueueAll; induction l generalizing s with
  | nil => rfl
  | cons i l ih => simp [ih]

@[simp] theorem enqueueAll_directives (l : List SlotId) (s : State) : (enqueueAll l s).directives = s.directives := by
  unfold enqueueAll; induction l generalizing s with
  | nil => rfl
  | cons i l ih => simp [ih]

@[simp] theorem enqueueAll_transmitter (l : List SlotId) (s : State) : (enqueueAll l s).transmitter = s.transmitter := by
  unfold enqueueAll; induction l generalizing s with
  | nil => rfl
  | cons i l ih => simp [ih]

@[simp] theorem enqueueAll_notices (l : List SlotId) (s : State) : (enqueueAll l s).notices = s.notices := by
  unfold enqueueAll; induction l generalizing s with
  | nil => rfl
  | cons i l ih => simp [ih]

@[simp] theorem outside_enqueueSlots (p : SlotId → Record → Bool) (s : State) : outside (enqueueSlots p s) = outside s := by
  simp [enqueueSlots]

@[simp] theorem enqueueSlots_slots (p : SlotId → Record → Bool) (s : State) : (enqueueSlots p s).slots = s.slots := by
  simp [enqueueSlots]

@[simp] theorem enqueueSlots_junctions (p : SlotId → Record → Bool) (s : State) : (enqueueSlots p s).junctions = s.junctions := by
  simp [enqueueSlots]

@[simp] theorem enqueueSlots_directives (p : SlotId → Record → Bool) (s : State) : (enqueueSlots p s).directives = s.directives := by
  simp [enqueueSlots]

@[simp] theorem enqueueSlots_transmitter (p : SlotId → Record → Bool) (s : State) : (enqueueSlots p s).transmitter = s.transmitter := by
  simp [enqueueSlots]

@[simp] theorem enqueueSlots_notices (p : SlotId → Record → Bool) (s : State) : (enqueueSlots p s).notices = s.notices := by
  simp [enqueueSlots]

@[simp] theorem outside_enqueueWhere (p : Record → Bool) (s : State) : outside (enqueueWhere p s) = outside s := by
  simp [enqueueWhere]

@[simp] theorem enqueueWhere_slots (p : Record → Bool) (s : State) : (enqueueWhere p s).slots = s.slots := by
  simp [enqueueWhere]

@[simp] theorem enqueueWhere_junctions (p : Record → Bool) (s : State) : (enqueueWhere p s).junctions = s.junctions := by
  simp [enqueueWhere]

@[simp] theorem enqueueWhere_directives (p : Record → Bool) (s : State) : (enqueueWhere p s).directives = s.directives := by
  simp [enqueueWhere]

@[simp] theorem enqueueWhere_transmitter (p : Record → Bool) (s : State) : (enqueueWhere p s).transmitter = s.transmitter := by
  simp [enqueueWhere]

@[simp] theorem enqueueWhere_notices (p : Record → Bool) (s : State) : (enqueueWhere p s).notices = s.notices := by
  simp [enqueueWhere]

@[simp] theorem outside_queueDirective (now : Time) (j : JunctionId) (k : DirectiveKind) (tag : Byte) (s : State) : outside (queueDirective now j k tag s) = outside s := by
  unfold queueDirective; simp; try rfl

@[simp] theorem queueDirective_slots (now : Time) (j : JunctionId) (k : DirectiveKind) (tag : Byte) (s : State) : (queueDirective now j k tag s).slots = s.slots := by
  unfold queueDirective; simp; try rfl

@[simp] theorem queueDirective_junctions (now : Time) (j : JunctionId) (k : DirectiveKind) (tag : Byte) (s : State) : (queueDirective now j k tag s).junctions = s.junctions := by
  unfold queueDirective; simp; try rfl

@[simp] theorem queueDirective_evalQueue (now : Time) (j : JunctionId) (k : DirectiveKind) (tag : Byte) (s : State) : (queueDirective now j k tag s).evalQueue = s.evalQueue := by
  unfold queueDirective; simp; try rfl

@[simp] theorem queueDirective_notices (now : Time) (j : JunctionId) (k : DirectiveKind) (tag : Byte) (s : State) : (queueDirective now j k tag s).notices = s.notices := by
  unfold queueDirective; simp; try rfl

@[simp] theorem outside_queueRelease (now : Time) (j : JunctionId) (tag : Byte) (s : State) : outside (queueRelease now j tag s) = outside s := by
  unfold queueRelease; split <;> first | rfl | simp

@[simp] theorem queueRelease_slots (now : Time) (j : JunctionId) (tag : Byte) (s : State) : (queueRelease now j tag s).slots = s.slots := by
  unfold queueRelease; split <;> first | rfl | simp

@[simp] theorem queueRelease_evalQueue (now : Time) (j : JunctionId) (tag : Byte) (s : State) : (queueRelease now j tag s).evalQueue = s.evalQueue := by
  unfold queueRelease; split <;> first | rfl | simp

@[simp] theorem queueRelease_notices (now : Time) (j : JunctionId) (tag : Byte) (s : State) : (queueRelease now j tag s).notices = s.notices := by
  unfold queueRelease; split <;> first | rfl | simp

@[simp] theorem outside_withdraw (j : JunctionId) (p : DirectiveKind → Bool) (s : State) : outside (withdraw j p s) = outside s := by
  unfold withdraw; split <;> simp

@[simp] theorem withdraw_slots (j : JunctionId) (p : DirectiveKind → Bool) (s : State) : (withdraw j p s).slots = s.slots := by
  unfold withdraw; split <;> simp

@[simp] theorem withdraw_evalQueue (j : JunctionId) (p : DirectiveKind → Bool) (s : State) : (withdraw j p s).evalQueue = s.evalQueue := by
  unfold withdraw; split <;> simp

@[simp] theorem withdraw_transmitter (j : JunctionId) (p : DirectiveKind → Bool) (s : State) : (withdraw j p s).transmitter = s.transmitter := by
  unfold withdraw; split <;> simp

@[simp] theorem withdraw_notices (j : JunctionId) (p : DirectiveKind → Bool) (s : State) : (withdraw j p s).notices = s.notices := by
  unfold withdraw; split <;> simp

@[simp] theorem outside_removeCandidate (j : JunctionId) (i : SlotId) (s : State) : outside (removeCandidate j i s) = outside s := by
  simp [removeCandidate, onOrder]

@[simp] theorem removeCandidate_slots (j : JunctionId) (i : SlotId) (s : State) : (removeCandidate j i s).slots = s.slots := by
  simp [removeCandidate, onOrder]

@[simp] theorem removeCandidate_evalQueue (j : JunctionId) (i : SlotId) (s : State) : (removeCandidate j i s).evalQueue = s.evalQueue := by
  simp [removeCandidate, onOrder]

@[simp] theorem removeCandidate_directives (j : JunctionId) (i : SlotId) (s : State) : (removeCandidate j i s).directives = s.directives := by
  simp [removeCandidate, onOrder]

@[simp] theorem removeCandidate_transmitter (j : JunctionId) (i : SlotId) (s : State) : (removeCandidate j i s).transmitter = s.transmitter := by
  simp [removeCandidate, onOrder]

@[simp] theorem removeCandidate_notices (j : JunctionId) (i : SlotId) (s : State) : (removeCandidate j i s).notices = s.notices := by
  simp [removeCandidate, onOrder]

@[simp] theorem outside_insertCandidate (j : JunctionId) (i : SlotId) (s : State) : outside (insertCandidate j i s) = outside s := by
  simp [insertCandidate, onOrder]

@[simp] theorem insertCandidate_slots (j : JunctionId) (i : SlotId) (s : State) : (insertCandidate j i s).slots = s.slots := by
  simp [insertCandidate, onOrder]

@[simp] theorem insertCandidate_evalQueue (j : JunctionId) (i : SlotId) (s : State) : (insertCandidate j i s).evalQueue = s.evalQueue := by
  simp [insertCandidate, onOrder]

@[simp] theorem insertCandidate_directives (j : JunctionId) (i : SlotId) (s : State) : (insertCandidate j i s).directives = s.directives := by
  simp [insertCandidate, onOrder]

@[simp] theorem insertCandidate_transmitter (j : JunctionId) (i : SlotId) (s : State) : (insertCandidate j i s).transmitter = s.transmitter := by
  simp [insertCandidate, onOrder]

@[simp] theorem insertCandidate_notices (j : JunctionId) (i : SlotId) (s : State) : (insertCandidate j i s).notices = s.notices := by
  simp [insertCandidate, onOrder]

@[simp] theorem outside_moveCandidate (j : JunctionId) (i : SlotId) (s : State) : outside (moveCandidate j i s) = outside s := by
  simp [moveCandidate, onOrder]

@[simp] theorem moveCandidate_slots (j : JunctionId) (i : SlotId) (s : State) : (moveCandidate j i s).slots = s.slots := by
  simp [moveCandidate, onOrder]

@[simp] theorem moveCandidate_evalQueue (j : JunctionId) (i : SlotId) (s : State) : (moveCandidate j i s).evalQueue = s.evalQueue := by
  simp [moveCandidate, onOrder]

@[simp] theorem moveCandidate_directives (j : JunctionId) (i : SlotId) (s : State) : (moveCandidate j i s).directives = s.directives := by
  simp [moveCandidate, onOrder]

@[simp] theorem moveCandidate_transmitter (j : JunctionId) (i : SlotId) (s : State) : (moveCandidate j i s).transmitter = s.transmitter := by
  simp [moveCandidate, onOrder]

@[simp] theorem moveCandidate_notices (j : JunctionId) (i : SlotId) (s : State) : (moveCandidate j i s).notices = s.notices := by
  simp [moveCandidate, onOrder]

@[simp] theorem outside_walkOrder (now : Time) (j : JunctionId) (l : List SlotId) (s : State) : outside ((walkOrder now j l s).1) = outside s := by
  induction l generalizing s with
  | nil => rfl
  | cons i l ih =>
    unfold walkOrder; repeat' split
    all_goals simp [ih]

@[simp] theorem walkOrder_junctions (now : Time) (j : JunctionId) (l : List SlotId) (s : State) : ((walkOrder now j l s).1).junctions = s.junctions := by
  induction l generalizing s with
  | nil => rfl
  | cons i l ih =>
    unfold walkOrder; repeat' split
    all_goals simp [ih]

@[simp] theorem walkOrder_directives (now : Time) (j : JunctionId) (l : List SlotId) (s : State) : ((walkOrder now j l s).1).directives = s.directives := by
  induction l generalizing s with
  | nil => rfl
  | cons i l ih =>
    unfold walkOrder; repeat' split
    all_goals simp [ih]

@[simp] theorem walkOrder_transmitter (now : Time) (j : JunctionId) (l : List SlotId) (s : State) : ((walkOrder now j l s).1).transmitter = s.transmitter := by
  induction l generalizing s with
  | nil => rfl
  | cons i l ih =>
    unfold walkOrder; repeat' split
    all_goals simp [ih]

@[simp] theorem walkOrder_notices (now : Time) (j : JunctionId) (l : List SlotId) (s : State) : ((walkOrder now j l s).1).notices = s.notices := by
  induction l generalizing s with
  | nil => rfl
  | cons i l ih =>
    unfold walkOrder; repeat' split
    all_goals simp [ih]

@[simp] theorem outside_makeOffer (now : Time) (j : JunctionId) (i : SlotId) (o : OfferTerms) (s : State) : outside (makeOffer now j i o s) = outside s := by
  simp [makeOffer]

@[simp] theorem makeOffer_evalQueue (now : Time) (j : JunctionId) (i : SlotId) (o : OfferTerms) (s : State) : (makeOffer now j i o s).evalQueue = s.evalQueue := by
  simp [makeOffer]

@[simp] theorem makeOffer_notices (now : Time) (j : JunctionId) (i : SlotId) (o : OfferTerms) (s : State) : (makeOffer now j i o s).notices = s.notices := by
  simp [makeOffer]

@[simp] theorem outside_issueCheck (now : Time) (j : JunctionId) (s : State) : outside (issueCheck now j s) = outside s := by
  unfold issueCheck; dsimp only; repeat' split
  all_goals simp

@[simp] theorem issueCheck_notices (now : Time) (j : JunctionId) (s : State) : (issueCheck now j s).notices = s.notices := by
  unfold issueCheck; dsimp only; repeat' split
  all_goals simp

@[simp] theorem outside_clearGrant (j : JunctionId) (s : State) : outside (clearGrant j s) = outside s := by
  simp [clearGrant]

@[simp] theorem clearGrant_slots (j : JunctionId) (s : State) : (clearGrant j s).slots = s.slots := by
  simp [clearGrant]

@[simp] theorem clearGrant_evalQueue (j : JunctionId) (s : State) : (clearGrant j s).evalQueue = s.evalQueue := by
  simp [clearGrant]

@[simp] theorem clearGrant_directives (j : JunctionId) (s : State) : (clearGrant j s).directives = s.directives := by
  simp [clearGrant]

@[simp] theorem clearGrant_transmitter (j : JunctionId) (s : State) : (clearGrant j s).transmitter = s.transmitter := by
  simp [clearGrant]

@[simp] theorem clearGrant_notices (j : JunctionId) (s : State) : (clearGrant j s).notices = s.notices := by
  simp [clearGrant]

@[simp] theorem outside_releaseGrant (now : Time) (j : JunctionId) (g : Grant) (s : State) : outside (releaseGrant now j g s) = outside s := by
  unfold releaseGrant; split <;> simp

@[simp] theorem releaseGrant_slots (now : Time) (j : JunctionId) (g : Grant) (s : State) : (releaseGrant now j g s).slots = s.slots := by
  unfold releaseGrant; split <;> simp

@[simp] theorem releaseGrant_evalQueue (now : Time) (j : JunctionId) (g : Grant) (s : State) : (releaseGrant now j g s).evalQueue = s.evalQueue := by
  unfold releaseGrant; split <;> simp

@[simp] theorem releaseGrant_notices (now : Time) (j : JunctionId) (g : Grant) (s : State) : (releaseGrant now j g s).notices = s.notices := by
  unfold releaseGrant; split <;> simp

@[simp] theorem outside_endOffered (j : JunctionId) (s : State) : outside (endOffered j s) = outside s := by
  simp [endOffered]

@[simp] theorem endOffered_slots (j : JunctionId) (s : State) : (endOffered j s).slots = s.slots := by
  simp [endOffered]

@[simp] theorem endOffered_evalQueue (j : JunctionId) (s : State) : (endOffered j s).evalQueue = s.evalQueue := by
  simp [endOffered]

@[simp] theorem endOffered_transmitter (j : JunctionId) (s : State) : (endOffered j s).transmitter = s.transmitter := by
  simp [endOffered]

@[simp] theorem endOffered_notices (j : JunctionId) (s : State) : (endOffered j s).notices = s.notices := by
  simp [endOffered]

@[simp] theorem outside_returnHolder (j : JunctionId) (i : SlotId) (s : State) : outside (returnHolder j i s) = outside s := by
  unfold returnHolder; repeat' split
  all_goals simp

@[simp] theorem returnHolder_evalQueue (j : JunctionId) (i : SlotId) (s : State) : (returnHolder j i s).evalQueue = s.evalQueue := by
  unfold returnHolder; repeat' split
  all_goals simp

@[simp] theorem returnHolder_directives (j : JunctionId) (i : SlotId) (s : State) : (returnHolder j i s).directives = s.directives := by
  unfold returnHolder; repeat' split
  all_goals simp

@[simp] theorem returnHolder_transmitter (j : JunctionId) (i : SlotId) (s : State) : (returnHolder j i s).transmitter = s.transmitter := by
  unfold returnHolder; repeat' split
  all_goals simp

@[simp] theorem returnHolder_notices (j : JunctionId) (i : SlotId) (s : State) : (returnHolder j i s).notices = s.notices := by
  unfold returnHolder; repeat' split
  all_goals simp

@[simp] theorem outside_clearOutstanding (j : JunctionId) (s : State) : outside (clearOutstanding j s) = outside s := by
  simp [clearOutstanding]

@[simp] theorem clearOutstanding_slots (j : JunctionId) (s : State) : (clearOutstanding j s).slots = s.slots := by
  simp [clearOutstanding]

@[simp] theorem clearOutstanding_evalQueue (j : JunctionId) (s : State) : (clearOutstanding j s).evalQueue = s.evalQueue := by
  simp [clearOutstanding]

@[simp] theorem clearOutstanding_directives (j : JunctionId) (s : State) : (clearOutstanding j s).directives = s.directives := by
  simp [clearOutstanding]

@[simp] theorem clearOutstanding_transmitter (j : JunctionId) (s : State) : (clearOutstanding j s).transmitter = s.transmitter := by
  simp [clearOutstanding]

@[simp] theorem clearOutstanding_notices (j : JunctionId) (s : State) : (clearOutstanding j s).notices = s.notices := by
  simp [clearOutstanding]

@[simp] theorem outside_handBack (j : JunctionId) (g : Grant) (c : Category) (s : State) : outside (handBack j g c s) = outside s := by
  simp [handBack]

@[simp] theorem handBack_transmitter (j : JunctionId) (g : Grant) (c : Category) (s : State) : (handBack j g c s).transmitter = s.transmitter := by
  simp [handBack]

@[simp] theorem outside_endAccepted (now : Time) (j : JunctionId) (g : Grant) (release : Bool) (served : Option Half)
    (leave : State → State) (h : ∀ t, outside (leave t) = outside t) (s : State) :
    outside (endAccepted now j g release served leave s) = outside s := by
  unfold endAccepted; dsimp only
  cases served <;> cases release <;> simp [h]

@[simp] theorem endAccepted_notices (now : Time) (j : JunctionId) (g : Grant) (release : Bool) (served : Option Half)
    (leave : State → State) (h : ∀ t, (leave t).notices = t.notices) (s : State) :
    (endAccepted now j g release served leave s).notices = s.notices := by
  unfold endAccepted; dsimp only
  cases served <;> cases release <;> simp [h]

@[simp] theorem outside_holderRetired (now : Time) (j : JunctionId) (v : Half) (o : RetireOutcome) (s : State) :
    outside (holderRetired now j v o s) = outside s := by
  unfold holderRetired; repeat' split
  all_goals simp

@[simp] theorem holderRetired_notices (now : Time) (j : JunctionId) (v : Half) (o : RetireOutcome) (s : State) :
    (holderRetired now j v o s).notices = s.notices := by
  unfold holderRetired; repeat' split
  all_goals simp

@[simp] theorem outside_retire (now : Time) (i : SlotId) (o : RetireOutcome) (s : State) : outside (retire now i o s) = outside s := by
  unfold retire; repeat' split
  all_goals simp

@[simp] theorem retire_notices (now : Time) (i : SlotId) (o : RetireOutcome) (s : State) : (retire now i o s).notices = s.notices := by
  unfold retire; repeat' split
  all_goals simp

@[simp] theorem outside_retireKey (now : Time) (v : Half) (j : Byte) (o : RetireOutcome) (s : State) : outside (retireKey now v j o s) = outside s := by
  unfold retireKey; split <;> simp

@[simp] theorem retireKey_notices (now : Time) (v : Half) (j : Byte) (o : RetireOutcome) (s : State) : (retireKey now v j o s).notices = s.notices := by
  unfold retireKey; split <;> simp

@[simp] theorem outside_acceptGrant (now : Time) (j : JunctionId) (g : Grant) (s : State) : outside (acceptGrant now j g s) = outside s := by
  simp [acceptGrant]

@[simp] theorem acceptGrant_notices (now : Time) (j : JunctionId) (g : Grant) (s : State) : (acceptGrant now j g s).notices = s.notices := by
  simp [acceptGrant]

@[simp] theorem outside_acceptAnswer (now : Time) (j : JunctionId) (tag : Byte) (s : State) : outside (acceptAnswer now j tag s) = outside s := by
  unfold acceptAnswer; repeat' split
  all_goals simp

@[simp] theorem outside_declineAnswer (now : Time) (j : JunctionId) (tag : Byte) (s : State) : outside (declineAnswer now j tag s) = outside s := by
  unfold declineAnswer; repeat' split
  all_goals simp

@[simp] theorem outside_answerTimeout (now : Time) (j : JunctionId) (s : State) : outside (answerTimeout now j s) = outside s := by
  unfold answerTimeout; repeat' split
  all_goals simp

@[simp] theorem outside_clearAccepted (now : Time) (j : JunctionId) (s : State) : outside (clearAccepted now j s) = outside s := by
  unfold clearAccepted; split <;> simp

@[simp] theorem clearAccepted_slots (now : Time) (j : JunctionId) (s : State) : (clearAccepted now j s).slots = s.slots := by
  unfold clearAccepted; split <;> simp

@[simp] theorem clearAccepted_evalQueue (now : Time) (j : JunctionId) (s : State) : (clearAccepted now j s).evalQueue = s.evalQueue := by
  unfold clearAccepted; split <;> simp

@[simp] theorem clearAccepted_notices (now : Time) (j : JunctionId) (s : State) : (clearAccepted now j s).notices = s.notices := by
  unfold clearAccepted; split <;> simp

@[simp] theorem outside_clearOffered (j : JunctionId) (s : State) : outside (clearOffered j s) = outside s := by
  unfold clearOffered; split <;> simp

@[simp] theorem clearOffered_slots (j : JunctionId) (s : State) : (clearOffered j s).slots = s.slots := by
  unfold clearOffered; split <;> simp

@[simp] theorem clearOffered_evalQueue (j : JunctionId) (s : State) : (clearOffered j s).evalQueue = s.evalQueue := by
  unfold clearOffered; split <;> simp

@[simp] theorem clearOffered_transmitter (j : JunctionId) (s : State) : (clearOffered j s).transmitter = s.transmitter := by
  unfold clearOffered; split <;> simp

@[simp] theorem clearOffered_notices (j : JunctionId) (s : State) : (clearOffered j s).notices = s.notices := by
  unfold clearOffered; split <;> simp

@[simp] theorem outside_goDark (now : Time) (j : JunctionId) (reason : DarkReason) (s : State) : outside (goDark now j reason s) = outside s := by
  simp [goDark]

@[simp] theorem goDark_evalQueue (now : Time) (j : JunctionId) (reason : DarkReason) (s : State) : (goDark now j reason s).evalQueue = s.evalQueue := by
  simp [goDark]

@[simp] theorem goDark_transmitter (now : Time) (j : JunctionId) (reason : DarkReason) (s : State) : (goDark now j reason s).transmitter = s.transmitter := by
  simp [goDark]

@[simp] theorem outside_setReason (j : JunctionId) (reason : DarkReason) (s : State) : outside (setReason j reason s) = outside s := by
  simp [setReason]

@[simp] theorem setReason_slots (j : JunctionId) (reason : DarkReason) (s : State) : (setReason j reason s).slots = s.slots := by
  simp [setReason]

@[simp] theorem setReason_evalQueue (j : JunctionId) (reason : DarkReason) (s : State) : (setReason j reason s).evalQueue = s.evalQueue := by
  simp [setReason]

@[simp] theorem setReason_directives (j : JunctionId) (reason : DarkReason) (s : State) : (setReason j reason s).directives = s.directives := by
  simp [setReason]

@[simp] theorem setReason_transmitter (j : JunctionId) (reason : DarkReason) (s : State) : (setReason j reason s).transmitter = s.transmitter := by
  simp [setReason]

@[simp] theorem setReason_notices (j : JunctionId) (reason : DarkReason) (s : State) : (setReason j reason s).notices = s.notices := by
  simp [setReason]

@[simp] theorem outside_renewLiveness (j : JunctionId) (s : State) : outside (renewLiveness j s) = outside s := by
  simp [renewLiveness]

@[simp] theorem renewLiveness_slots (j : JunctionId) (s : State) : (renewLiveness j s).slots = s.slots := by
  simp [renewLiveness]

@[simp] theorem renewLiveness_evalQueue (j : JunctionId) (s : State) : (renewLiveness j s).evalQueue = s.evalQueue := by
  simp [renewLiveness]

@[simp] theorem renewLiveness_directives (j : JunctionId) (s : State) : (renewLiveness j s).directives = s.directives := by
  simp [renewLiveness]

@[simp] theorem renewLiveness_transmitter (j : JunctionId) (s : State) : (renewLiveness j s).transmitter = s.transmitter := by
  simp [renewLiveness]

@[simp] theorem renewLiveness_notices (j : JunctionId) (s : State) : (renewLiveness j s).notices = s.notices := by
  simp [renewLiveness]

@[simp] theorem outside_loseLink (now : Time) (j : JunctionId) (s : State) : outside (loseLink now j s) = outside s := by
  unfold loseLink; dsimp only; split <;> simp

@[simp] theorem loseLink_evalQueue (now : Time) (j : JunctionId) (s : State) : (loseLink now j s).evalQueue = s.evalQueue := by
  unfold loseLink; dsimp only; split <;> simp

@[simp] theorem loseLink_transmitter (now : Time) (j : JunctionId) (s : State) : (loseLink now j s).transmitter = s.transmitter := by
  unfold loseLink; dsimp only; split <;> simp

@[simp] theorem outside_reportMode (now : Time) (j : JunctionId) (m : LocalMode) (s : State) : outside (reportMode now j m s) = outside s := by
  unfold reportMode; dsimp only; repeat' split
  all_goals simp

@[simp] theorem reportMode_evalQueue (now : Time) (j : JunctionId) (m : LocalMode) (s : State) : (reportMode now j m s).evalQueue = s.evalQueue := by
  unfold reportMode; dsimp only; repeat' split
  all_goals simp

@[simp] theorem reportMode_transmitter (now : Time) (j : JunctionId) (m : LocalMode) (s : State) : (reportMode now j m s).transmitter = s.transmitter := by
  unfold reportMode; dsimp only; repeat' split
  all_goals simp

@[simp] theorem outside_enterLive (now : Time) (j : JunctionId) (count : Byte) (s : State) : outside (enterLive now j count s) = outside s := by
  simp [enterLive]

@[simp] theorem enterLive_notices (now : Time) (j : JunctionId) (count : Byte) (s : State) : (enterLive now j count s).notices = s.notices := by
  simp [enterLive]

@[simp] theorem outside_tryEnterLive (now : Time) (j : JunctionId) (count : Byte) (s : State) : outside (tryEnterLive now j count s) = outside s := by
  unfold tryEnterLive; split <;> simp

@[simp] theorem tryEnterLive_notices (now : Time) (j : JunctionId) (count : Byte) (s : State) : (tryEnterLive now j count s).notices = s.notices := by
  unfold tryEnterLive; split <;> simp

@[simp] theorem outside_markFlight (j : JunctionId) (s : State) : outside (markFlight j s) = outside s := by
  unfold markFlight; repeat' split
  all_goals simp

@[simp] theorem markFlight_junctions (j : JunctionId) (s : State) : (markFlight j s).junctions = s.junctions := by
  unfold markFlight; repeat' split
  all_goals simp

@[simp] theorem markFlight_evalQueue (j : JunctionId) (s : State) : (markFlight j s).evalQueue = s.evalQueue := by
  unfold markFlight; repeat' split
  all_goals simp

@[simp] theorem markFlight_directives (j : JunctionId) (s : State) : (markFlight j s).directives = s.directives := by
  unfold markFlight; repeat' split
  all_goals simp

@[simp] theorem markFlight_transmitter (j : JunctionId) (s : State) : (markFlight j s).transmitter = s.transmitter := by
  unfold markFlight; repeat' split
  all_goals simp

@[simp] theorem markFlight_notices (j : JunctionId) (s : State) : (markFlight j s).notices = s.notices := by
  unfold markFlight; repeat' split
  all_goals simp

@[simp] theorem outside_endForAdoption (j : JunctionId) (s : State) : outside (endForAdoption j s) = outside s := by
  unfold endForAdoption; split <;> simp

@[simp] theorem endForAdoption_evalQueue (j : JunctionId) (s : State) : (endForAdoption j s).evalQueue = s.evalQueue := by
  unfold endForAdoption; split <;> simp

@[simp] theorem endForAdoption_directives (j : JunctionId) (s : State) : (endForAdoption j s).directives = s.directives := by
  unfold endForAdoption; split <;> simp

@[simp] theorem endForAdoption_transmitter (j : JunctionId) (s : State) : (endForAdoption j s).transmitter = s.transmitter := by
  unfold endForAdoption; split <;> simp

@[simp] theorem endForAdoption_notices (j : JunctionId) (s : State) : (endForAdoption j s).notices = s.notices := by
  unfold endForAdoption; split <;> simp

@[simp] theorem outside_markCandidates (j : JunctionId) (s : State) : outside (markCandidates j s) = outside s := by
  unfold markCandidates
  generalize (junctionAt s j).candidates = l
  induction l generalizing s with
  | nil => rfl
  | cons i l ih => simp [ih]

@[simp] theorem markCandidates_junctions (j : JunctionId) (s : State) : (markCandidates j s).junctions = s.junctions := by
  unfold markCandidates
  generalize (junctionAt s j).candidates = l
  induction l generalizing s with
  | nil => rfl
  | cons i l ih => simp [ih]

@[simp] theorem markCandidates_evalQueue (j : JunctionId) (s : State) : (markCandidates j s).evalQueue = s.evalQueue := by
  unfold markCandidates
  generalize (junctionAt s j).candidates = l
  induction l generalizing s with
  | nil => rfl
  | cons i l ih => simp [ih]

@[simp] theorem markCandidates_directives (j : JunctionId) (s : State) : (markCandidates j s).directives = s.directives := by
  unfold markCandidates
  generalize (junctionAt s j).candidates = l
  induction l generalizing s with
  | nil => rfl
  | cons i l ih => simp [ih]

@[simp] theorem markCandidates_transmitter (j : JunctionId) (s : State) : (markCandidates j s).transmitter = s.transmitter := by
  unfold markCandidates
  generalize (junctionAt s j).candidates = l
  induction l generalizing s with
  | nil => rfl
  | cons i l ih => simp [ih]

@[simp] theorem markCandidates_notices (j : JunctionId) (s : State) : (markCandidates j s).notices = s.notices := by
  unfold markCandidates
  generalize (junctionAt s j).candidates = l
  induction l generalizing s with
  | nil => rfl
  | cons i l ih => simp [ih]

@[simp] theorem outside_adoptPlan (now : Time) (j : JunctionId) (count : Byte) (p : Plan) (s : State) : outside (adoptPlan now j count p s) = outside s := by
  unfold adoptPlan; dsimp only; split <;> simp

@[simp] theorem adoptPlan_notices (now : Time) (j : JunctionId) (count : Byte) (p : Plan) (s : State) : (adoptPlan now j count p s).notices = s.notices := by
  unfold adoptPlan; dsimp only; split <;> simp

@[simp] theorem outside_queueTrim (now : Time) (j : JunctionId) (s : State) : outside (queueTrim now j s) = outside s := by
  unfold queueTrim; dsimp only; split <;> simp

@[simp] theorem queueTrim_slots (now : Time) (j : JunctionId) (s : State) : (queueTrim now j s).slots = s.slots := by
  unfold queueTrim; dsimp only; split <;> simp

@[simp] theorem queueTrim_evalQueue (now : Time) (j : JunctionId) (s : State) : (queueTrim now j s).evalQueue = s.evalQueue := by
  unfold queueTrim; dsimp only; split <;> simp

@[simp] theorem queueTrim_notices (now : Time) (j : JunctionId) (s : State) : (queueTrim now j s).notices = s.notices := by
  unfold queueTrim; dsimp only; split <;> simp

@[simp] theorem outside_nextCycle (now : Time) (j : JunctionId) (count : Byte) (s : State) : outside (nextCycle now j count s) = outside s := by
  unfold nextCycle; dsimp only; split <;> simp

@[simp] theorem outside_mismatch (now : Time) (j : JunctionId) (s : State) : outside (mismatch now j s) = outside s := by
  unfold mismatch; repeat' split
  all_goals simp

@[simp] theorem mismatch_evalQueue (now : Time) (j : JunctionId) (s : State) : (mismatch now j s).evalQueue = s.evalQueue := by
  unfold mismatch; repeat' split
  all_goals simp

@[simp] theorem mismatch_transmitter (now : Time) (j : JunctionId) (s : State) : (mismatch now j s).transmitter = s.transmitter := by
  unfold mismatch; repeat' split
  all_goals simp

@[simp] theorem outside_cycleStart (now : Time) (j : JunctionId) (count planId : Byte) (s : State) : outside (cycleStart now j count planId s) = outside s := by
  unfold cycleStart; dsimp only; repeat' split
  all_goals simp

@[simp] theorem outside_setStep (now : Time) (j : JunctionId) (k : Nat) (s : State) : outside (setStep now j k s) = outside s := by
  simp [setStep]

@[simp] theorem setStep_slots (now : Time) (j : JunctionId) (k : Nat) (s : State) : (setStep now j k s).slots = s.slots := by
  simp [setStep]

@[simp] theorem setStep_evalQueue (now : Time) (j : JunctionId) (k : Nat) (s : State) : (setStep now j k s).evalQueue = s.evalQueue := by
  simp [setStep]

@[simp] theorem setStep_directives (now : Time) (j : JunctionId) (k : Nat) (s : State) : (setStep now j k s).directives = s.directives := by
  simp [setStep]

@[simp] theorem setStep_transmitter (now : Time) (j : JunctionId) (k : Nat) (s : State) : (setStep now j k s).transmitter = s.transmitter := by
  simp [setStep]

@[simp] theorem setStep_notices (now : Time) (j : JunctionId) (k : Nat) (s : State) : (setStep now j k s).notices = s.notices := by
  simp [setStep]

@[simp] theorem outside_coverHolder (i : SlotId) (s : State) : outside (coverHolder i s) = outside s := by
  simp [coverHolder]

@[simp] theorem coverHolder_junctions (i : SlotId) (s : State) : (coverHolder i s).junctions = s.junctions := by
  simp [coverHolder]

@[simp] theorem coverHolder_directives (i : SlotId) (s : State) : (coverHolder i s).directives = s.directives := by
  simp [coverHolder]

@[simp] theorem coverHolder_transmitter (i : SlotId) (s : State) : (coverHolder i s).transmitter = s.transmitter := by
  simp [coverHolder]

@[simp] theorem coverHolder_notices (i : SlotId) (s : State) : (coverHolder i s).notices = s.notices := by
  simp [coverHolder]

@[simp] theorem outside_progress (now : Time) (j : JunctionId) (ends : GrantKind) (phase : Byte) (s : State) :
    outside (progress now j ends phase s) = outside s := by
  unfold progress; split <;> simp

@[simp] theorem progress_notices (now : Time) (j : JunctionId) (ends : GrantKind) (phase : Byte) (s : State) :
    (progress now j ends phase s).notices = s.notices := by
  unfold progress; split <;> simp

@[simp] theorem outside_phaseStart (now : Time) (j : JunctionId) (phase : Byte) (s : State) :
    outside (phaseStart now j phase s) = outside s := by
  unfold phaseStart; dsimp only; repeat' split
  all_goals simp

@[simp] theorem outside_phaseEnd (now : Time) (j : JunctionId) (phase : Byte) (s : State) :
    outside (phaseEnd now j phase s) = outside s := by
  unfold phaseEnd; dsimp only; repeat' split
  all_goals simp

end Sys2Proof.Machine
end

