-- ==== Sys2Proof/Laws/Specs.lean ====
section
/-! SUPPORT. What the shared operations do, said once in the terms of Safety.lean, so that no proof unfolds them: the
evaluation queue's operations, deadlines, the acceptance of a grant, the delivery of a junction link frame, the taking of a
supervisor command, and the bytes of a field. -/

namespace Sys2Proof.Laws

open Sys2Proof.Machine Sys2Proof.Safety

/-! ### The evaluation queue (R91, R92) -/

theorem enqueue_eq (i : SlotId) (s : State) (h : (recordAt s i).isSome = true) :
    enqueue i s = { s with evalQueue := queued s.evalQueue i } := by
  cases hr : recordAt s i with
  | none => simp [hr] at h
  | some r =>
    unfold enqueue queued
    by_cases hm : i ∈ s.evalQueue <;> simp [hm, hr]

theorem foldl_enqueue_eq (l : List SlotId) (s : State) (h : ∀ i ∈ l, (recordAt s i).isSome = true) (hl : l.Nodup) :
    l.foldl (fun t i => enqueue i t) s =
      { s with evalQueue := s.evalQueue ++ l.filter fun i => !s.evalQueue.contains i } := by
  induction l generalizing s with
  | nil => simp
  | cons a l ih =>
    have ha := h a (by simp)
    obtain ⟨hal, hl⟩ := List.nodup_cons.mp hl
    rw [List.foldl_cons, enqueue_eq a s ha]
    refine (ih { s with evalQueue := queued s.evalQueue a } (fun i hi => h i (by simp [hi])) hl).trans ?_
    by_cases hm : a ∈ s.evalQueue
    · simp [queued, hm]
    · have : ∀ i ∈ l, ((queued s.evalQueue a).contains i) = s.evalQueue.contains i := by
        intro i hi
        have hne : i ≠ a := fun e => hal (e ▸ hi)
        simp [queued, hm, hne]
      have hf : l.filter (fun i => !(queued s.evalQueue a).contains i) = l.filter (fun i => !s.evalQueue.contains i) :=
        List.filter_congr fun i hi => by rw [this i hi]
      simp only [hf]
      simp [queued, hm]

/-- Enqueuing every record that meets a test of its slot and itself: the slots not yet queued join in ascending order,
and nothing else changes. -/
theorem enqueueSlots_eq (p : SlotId → Record → Bool) (s : State) :
    enqueueSlots p s = { s with evalQueue := queuedWhere s.evalQueue fun i => (recordAt s i).any (p i) } := by
  unfold enqueueSlots enqueueAll slotsWhere queuedWhere
  rw [foldl_enqueue_eq]
  · simp [List.filter_filter, Bool.and_comm]
  · intro i hi
    have := (List.mem_filter.mp hi).2
    cases hr : recordAt s i with
    | none => simp [hr] at this
    | some r => rfl
  · exact List.Nodup.filter _ (List.nodup_finRange 96)

/-- Enqueuing every record that meets a test: the slots not yet queued join in ascending order, and nothing else
changes. -/
theorem enqueueWhere_eq (p : Record → Bool) (s : State) :
    enqueueWhere p s = { s with evalQueue := queuedWhere s.evalQueue fun i => (recordAt s i).any p } :=
  enqueueSlots_eq (fun _ => p) s

/-- The slots an ACCEPT enqueues, where the holder's slot is occupied: the holder's own, and every slot whose record is
mapped to the grant step. -/
theorem any_joinsAcceptance (s : State) (c : Junction) (j : JunctionId) (g : Grant) (h : (recordAt s g.slot).isSome = true)
    (i : SlotId) :
    (recordAt s i).any (joinsAcceptance c j g i) = (decide (i = g.slot) || (recordAt s i).any (mappedTo c j g.step)) := by
  by_cases e : i = g.slot
  · subst e
    cases hr : recordAt s g.slot with
    | none => simp [hr] at h
    | some r => simp [joinsAcceptance]
  · cases recordAt s i <;> simp [joinsAcceptance, e]

/-! ### Deadlines (R3) -/

/-- A present deadline expires once corridor time has reached it. -/
theorem due_some (now d : Time) : due now (some d) = if 0 ≤ timeDiff now d then some d else none := by
  by_cases h : 0 ≤ timeDiff now d <;> simp [due, reached, Option.filter, h]

/-- A deadline that is absent or not reached does not expire. -/
theorem due_eq_none (now : Time) (x : Option Time) (h : ∀ d, x = some d → timeDiff now d < 0) : due now x = none := by
  cases x with
  | none => rfl
  | some d => rw [due_some, if_neg (not_le.mpr (h d rfl))]

/-! ### Acceptance (R106, R111) -/

/-- The issue check of a junction that names a holder changes nothing (R106). -/
theorem issueCheck_of_grant (now : Time) (j : JunctionId) (s : State) (h : (junctionAt s j).grant.isSome = true) :
    issueCheck now j s = s := by
  obtain ⟨g, hg⟩ := Option.isSome_iff_exists.mp h
  exact if_neg (by simp [mayOffer, canDirect, hg])

/-- Two changes of one junction, with the evaluation queue changed between them, are one change. -/
theorem onJunction_enqueued (j : JunctionId) (f h : Junction → Junction) (q : List SlotId) (s : State) :
    onJunction j h { onJunction j f s with evalQueue := q } = { onJunction j (fun c => h (f c)) s with evalQueue := q } := by
  simp [onJunction, junctionAt]

/-- An ACCEPT with the current tag, where the holder's slot is occupied: the grant, the cycle adjustment, the outstanding
directive and the evaluation queue change, and nothing else (R111). -/
theorem acceptGrant_eq (now : Time) (j : JunctionId) (g : Grant) (s : State) (h : (recordAt s g.slot).isSome = true) :
    acceptGrant now j g s =
      { onJunction j (fun c =>
          { c with
            grant := some { g with accepted := true }
            adjustment := adjusted c.adjustment (acceptChange g)
            outstanding := none
            acceptDeadline := none }) s with
        evalQueue := queuedWhere s.evalQueue fun i =>
          decide (i = g.slot) || (recordAt s i).any (mappedTo (junctionAt s j) j g.step) } := by
  unfold acceptGrant clearOutstanding
  simp only [enqueueSlots_eq]
  rw [issueCheck_of_grant _ _ _ (by simp [onJunction, junctionAt, adjustBy]), onJunction_enqueued]
  simp only [any_joinsAcceptance _ _ j g (show (recordAt (onJunction _ _ s) g.slot).isSome = true from h)]
  simp only [onJunction, junctionAt, Vector.getElem_set_self, Fin.getElem_fin]
  rfl

/-! ### Delivery (R7, R154) -/

/-- A valid junction link frame's content is handled in the state with its link renewed. -/
theorem deliverJunction_eq (m : JunctionMsg) (j : JunctionId) (s : State) (h : junctionOf (msgJunction m) = some j) :
    deliverJunction m (setAssembler .junction .hunt s) = deliverContent j m (heard j s) := by
  unfold deliverJunction
  rw [h]
  have : renewLiveness j (setAssembler .junction .hunt s) = heard j s := by
    unfold renewLiveness heard regained
    by_cases hc : (junctionAt s j).liveness = none ∧ (junctionAt s j).sync = .dark .linkLost
    · have hc' := hc
      simp only [junctionAt] at hc'
      simp only [onJunction, junctionAt, setAssembler, hc', and_self, ↓reduceIte]
      rfl
    · have hc' := hc
      simp only [junctionAt] at hc'
      simp only [onJunction, junctionAt, setAssembler, hc', ↓reduceIte]
  simp only [this]

/-! ### The port (R160) -/

/-- A command's code is its number in R162's table. -/
theorem commandCode_eq (c : Command) : commandCode c = commandNumber c := by cases c <;> rfl

/-- A command's code has the command's body length. -/
theorem commandSize_commandNumber (c : Command) : commandSize (commandNumber c) = some (commandLength c) := by
  cases c <;> rfl

/-- A response code is sent as its number. -/
theorem responseByte_eq (c : ResponseCode) : responseByte c = responseNumber c := by cases c <;> rfl

/-- A supervisor command taken while the port is not EXECUTING has its effect and is answered. -/
theorem command_eq (c : Command) (s : State) (h : isExecuting s = false) :
    command c s = taken s c (act c s).2.1 (act c s).2.2 (act c s).1 := by
  simp [command, takeCommand, h, driveZeros, taken, commandCode_eq, commandSize_commandNumber]

theorem isExecuting_of_not_busy (s : State) (h : ¬Busy s) : isExecuting s = false := by
  unfold isExecuting
  split
  · rename_i r t e; exact absurd ⟨r, t, e⟩ h
  · rfl

/-! ### Bytes (R149) -/

@[simp] theorem valueOf_nil : valueOf [] = 0 := rfl

@[simp] theorem valueOf_cons (b : Byte) (l : List Byte) : valueOf (b :: l) = b.toNat + 256 * valueOf l := rfl

theorem byteOf_toNat (n : Nat) : (byteOf n).toNat = n % 256 := BitVec.toNat_ofNat n 8

/-- A half word's two bytes, low byte first, hold it. -/
theorem valueOf_le16 (h : Half) : valueOf (le16 h) = h.toNat := by
  simp only [le16, valueOf_cons, valueOf_nil, BitVec.toNat_setWidth, BitVec.toNat_ushiftRight, Nat.shiftRight_eq_div_pow]
  have := h.isLt
  omega

/-- A number's two bytes hold it modulo 65536. -/
theorem valueOf_le16Nat (n : Nat) : valueOf (le16Nat n) = n % 65536 := by
  rw [le16Nat, valueOf_le16, BitVec.toNat_ofNat]

/-- A signed number's two bytes hold it in two's complement. -/
theorem valueOf_le16Int (i : Int) : (valueOf (le16Int i) : Int) = i % 65536 := by
  rw [le16Int, valueOf_le16, BitVec.toNat_ofInt]
  omega

/-- A corridor time's four bytes hold it. -/
theorem valueOf_le32 (w : Time) : valueOf (le32 w) = w.toNat := by
  simp only [le32, valueOf_cons, valueOf_nil, BitVec.toNat_setWidth, BitVec.toNat_ushiftRight, Nat.shiftRight_eq_div_pow]
  have := w.isLt
  omega

/-- A byte of a list is a field of it. -/
theorem field_byte (l : List Byte) (o : Nat) (b : Byte) : Safety.Field l o 1 b.toNat ↔ o < l.length ∧ byteAt l o = b := by
  unfold Safety.Field byteAt
  constructor
  · rintro ⟨h, hv⟩
    have ho : o < l.length := by omega
    refine ⟨ho, ?_⟩
    rw [List.drop_eq_getElem_cons ho] at hv
    simp only [List.take_succ_cons, List.take_zero, valueOf_cons, valueOf_nil] at hv
    rw [List.getD_eq_getElem?_getD, List.getElem?_eq_getElem ho]
    apply BitVec.eq_of_toNat_eq
    simp only [Option.getD_some]
    have := b.isLt
    omega
  · rintro ⟨ho, rfl⟩
    refine ⟨by omega, ?_⟩
    rw [List.drop_eq_getElem_cons ho, List.getD_eq_getElem?_getD, List.getElem?_eq_getElem ho]
    simp only [List.take_succ_cons, List.take_zero, valueOf_cons, valueOf_nil, Option.getD_some]
    have := (l[o]).isLt
    omega

/-- A half word's number from its two bytes, low byte first. -/
theorem half_toNat (lo hi : Byte) : (half lo hi).toNat = lo.toNat + 256 * hi.toNat := by
  simp only [half, BitVec.toNat_append, Nat.shiftLeft_eq]
  have := lo.isLt
  rw [← Nat.shiftLeft_eq, ← Nat.shiftLeft_add_eq_or_of_lt this]
  simp [Nat.shiftLeft_eq]; omega

/-- Two bytes of a list, low byte first, are a field of it. -/
theorem field_half (l : List Byte) (o : Nat) (h : Half) : Safety.Field l o 2 h.toNat ↔ o + 1 < l.length ∧ halfAt l o = h := by
  unfold Safety.Field halfAt byteAt
  have key : ∀ (ho : o + 1 < l.length), valueOf ((l.drop o).take 2) = (half (l.getD o 0) (l.getD (o + 1) 0)).toNat := by
    intro ho
    rw [List.drop_eq_getElem_cons (by omega), List.drop_eq_getElem_cons ho]
    simp only [List.take_succ_cons, List.take_zero, valueOf_cons, valueOf_nil, half_toNat, List.getD_eq_getElem?_getD,
      List.getElem?_eq_getElem ho, List.getElem?_eq_getElem (show o < l.length by omega), Option.getD_some]
    omega
  have hl := h.isLt
  constructor
  · rintro ⟨hlen, hv⟩
    refine ⟨by omega, BitVec.eq_of_toNat_eq ?_⟩
    rw [key (by omega)] at hv
    omega
  · rintro ⟨ho, e⟩
    refine ⟨by omega, ?_⟩
    rw [key ho, e]
    omega
end Sys2Proof.Laws
end

