-- ==== Sys2Proof/WellFormed.lean ====
section
/-! DEFINITION. The conditions a row of the table puts on its operands: which frames and expiries exist. A frame's value
fields need none, since R45 clamps them and the rules refuse the rest; `exec` deals with the other commands too (log 9). -/

namespace Sys2Proof.WellFormed

open Sys2Proof.Machine

/-- The junction byte of a valid junction link frame that is not foreign: 0 to 15 (R153, R154). -/
def junctionByte (j : Byte) : Bool := decide (j.toNat < 16)

/-- The vehicle of a passage entry: 1 to 65534 (R141). -/
def entryVehicle (v : Half) : Bool := decide (1 ≤ v.toNat ∧ v.toNat ≤ 65534)

/-- A mask with none of bits 12 to 15 set (R166). -/
def noticeMask (mask : Half) : Bool := decide (mask.toNat < 4096)

/-- A NOTICE_WRITE that R166 refuses: a target above 2, an action other than 1 or 2, or a mask bit above 11 where the
target is not the master enable. -/
def refusedWrite (target action : Byte) (mask : Half) : Bool :=
  decide (2 < target.toNat) || !(decide (action = 1#8) || decide (action = 2#8)) ||
    (!noticeMask mask && decide (target ≠ 2#8))

/-- A transaction that R160 discards whatever the port's state: opened by neither 0xA5 nor 0x5A, or not one frame. -/
def discardedFrame (first : Byte) (rest : List Byte) : Bool :=
  decide (first ≠ 0x5A#8) && (decide (first ≠ 0xA5#8) || (commandFrame rest).isNone)

/-- A command frame that R160 discards while the port is EXECUTING. -/
def commandWhileExecuting (first : Byte) (rest : List Byte) : Bool :=
  decide (first = 0xA5#8) && (commandFrame rest).isSome

/-- The operand conditions of a command's row. -/
def wellFormed : Instr → Bool
  | .powerOn => true
  | .checkIn _ => true
  | .update _ => true
  | .checkOut _ _ => true
  | .cancel _ _ => true
  | .badFrame _ _ => true
  | .gapDeadlineExpiry _ => true
  | .foreignJunctionFrame m => !junctionByte (msgJunction m)
  | .status j _ => junctionByte j
  | .cycleStart j _ _ => junctionByte j
  | .phaseStart j _ => junctionByte j
  | .phaseEnd j _ => junctionByte j
  | .passage j _ _ => junctionByte j
  | .accept j _ => junctionByte j
  | .decline j _ _ => junctionByte j
  | .livenessExpiry _ => true
  | .cycleLimitExpiry _ => true
  | .recordExpiry _ => true
  | .acceptDeadlineExpiry _ => true
  | .passageEntryExpiry v => entryVehicle v
  | .staleDeadlineExpiry _ => true
  | .evaluationStart => true
  | .evaluationCompletion => true
  | .sentEvent => true
  | .commandFrameDiscarded first rest => discardedFrame first rest || commandWhileExecuting first rest
  | .readTransaction _ => true
  | .responseReady => true
  | .planStage _ => true
  | .planRead _ _ => true
  | .segmentSet _ => true
  | .segmentRead _ => true
  | .policySet _ => true
  | .policyRead => true
  | .junctionQuery _ => true
  | .junctionSuspend _ => true
  | .junctionResume _ => true
  | .recordLookup _ => true
  | .recordRetire _ => true
  | .recordForce _ => true
  | .listStart _ => true
  | .listContinue => true
  | .noticeRead => true
  | .noticeWriteEnablesSet m => noticeMask m
  | .noticeWriteEnablesClear m => noticeMask m
  | .noticeWritePendingSet m => noticeMask m
  | .noticeWritePendingClear m => noticeMask m
  | .noticeWriteMasterOn _ => true
  | .noticeWriteMasterOff _ => true
  | .corridorClear => true
  | .corridorTimeTick => true
  | .linkByteReceived _ _ _ => true
  | .noticeWriteRefused target action mask => refusedWrite target action mask

end Sys2Proof.WellFormed
end

