-- ==== Sys2Proof/Tests/Slice0.lean ====
section
/-! SUPPORT. The writer's own tests: ill-formed commands are refused, the spec's worked numbers come out of one command
each, and every statement of Obligations.lean that has hypotheses has operands that meet them. -/

namespace Sys2Proof.Tests

open Sys2Proof.Machine Sys2Proof.Safety

set_option Elab.async false

/-! ### Small states -/

/-- A plan of three steps: phase 2 extendable and advanceable, phase 4, and phase 6 protected. -/
def plan : Plan where
  planId := 7
  cycle := 900
  steps := [⟨2, 400, 150, false, 120, 120⟩, ⟨4, 300, 120, false, 40, 40⟩, ⟨6, 200, 200, true, 0, 0⟩]
  approaches := #v[⟨some 0, some 5⟩, ⟨some 1, none⟩, ⟨none, none⟩, ⟨some 0, none⟩]

/-- Junction 0 LIVE in the second step of the plan at corridor time 1000, with its cycle begun at 500. -/
def live : State :=
  { onJunction 0 (fun c =>
      { c with
        sync := .live 1800
        localMode := some .coord
        activePlan := some plan
        liveness := some 1040
        lastCycleStart := some 500
        cycleCount := 9
        currentStep := some 1
        stepStart := some 900
        tagCounter := 7 }) State.reset with
    time := 1000 }

/-- Junction 0 changed in a state. -/
def at0 (s : State) (f : Junction → Junction) : State := onJunction 0 f s

/-- A record of junction 0 and approach 0, in a state of the record. -/
def aRecord (v : Half) (st : RecordState) (d : Option DecisionKind) : Record where
  vehicle := v
  junction := 0
  approach := 0
  cls := .late
  sequence := 250
  distance := 300
  speed := some 100
  dwell := none
  deviation := none
  occupancy := none
  forecast := none
  decision := d.map fun k => { kind := k, time := 995 }
  score := 150
  checkInTime := 990
  lastMessage := 995
  expiry := 1000
  status := st
  changedInFlight := false
  refreshWanted := false

/-- A record put into a slot. -/
def put (i : SlotId) (r : Record) (s : State) : State := onSlot i (fun sl => { sl with record := some r }) s

/-- Junction 0 with a grant to slot 3 under tag 7: offered and outstanding, or accepted. -/
def granted (accepted : Bool) (kind : GrantKind) : State :=
  put 3 (aRecord 412 (.granted 7) (some (.extend 60 false)))
    (at0 live fun c =>
      { c with
        grant := some { accepted := accepted, slot := 3, generation := 0, step := 0, kind := kind, amount := 60, offerTime := 990 }
        outstanding := if accepted then none else some { kind := outstandingOf kind, tag := 7 }
        acceptDeadline := if accepted then none else some 1000 })

/-- Junction 0 with one candidate, in slot 3. -/
def candidate : State :=
  put 3 (aRecord 412 .candidate (some (.extend 60 false))) (at0 live fun c => { c with candidates := [3] })

/-- The state a command leaves, where it answers one. -/
def after (c : Instr) (s : State) : State :=
  match exec c s with
  | .next t => t
  | .fault _ => s
  | .refused _ => s

/-- A step answers a next state. -/
def steps (s : State) : Bool :=
  match step s with
  | .next _ => true
  | .fault _ => false
  | .refused _ => false

/-! ### Ill-formed commands: one that each check of WellFormed.lean refuses -/

/-- A junction link frame naming junction 16 is no row of its own but FOREIGN_JUNCTION_FRAME, and 15 is not foreign. -/
theorem test_illFormed_junctionByte :
    WellFormed.wellFormed (.status 16 0) = false ∧ WellFormed.wellFormed (.accept 200 1) = false
      ∧ WellFormed.wellFormed (.foreignJunctionFrame (.status 15 0)) = false
      ∧ WellFormed.wellFormed (.status 15 0) = true := by decide

theorem test_illFormed_entryVehicle :
    WellFormed.wellFormed (.passageEntryExpiry 0) = false ∧ WellFormed.wellFormed (.passageEntryExpiry 65535) = false
      ∧ WellFormed.wellFormed (.passageEntryExpiry 65534) = true := by decide

theorem test_illFormed_noticeMask :
    WellFormed.wellFormed (.noticeWriteEnablesSet 0x1000) = false
      ∧ WellFormed.wellFormed (.noticeWritePendingClear 0x8001) = false
      ∧ WellFormed.wellFormed (.noticeWriteEnablesSet 0x0FFF) = true := by decide

/-- A NOTICE_WRITE that is not refused is not a NOTICE_WRITE_REFUSED: the master ignores its mask. -/
theorem test_illFormed_refusedWrite :
    WellFormed.wellFormed (.noticeWriteRefused 2 1 0xF000) = false
      ∧ WellFormed.wellFormed (.noticeWriteRefused 0 1 0x0FFF) = false
      ∧ WellFormed.wellFormed (.noticeWriteRefused 1 2 0x1000) = true
      ∧ WellFormed.wellFormed (.noticeWriteRefused 3 1 0) = true := by decide

/-- A transaction opened by 0x5A is a read, and is not discarded. -/
theorem test_illFormed_discardedFrame :
    WellFormed.wellFormed (.commandFrameDiscarded 0x5A []) = false
      ∧ WellFormed.wellFormed (.commandFrameDiscarded 0x13 []) = true
      ∧ WellFormed.wellFormed (.commandFrameDiscarded 0xA5 [0]) = true := by decide +kernel

/-- A good POLICY_READ frame is discarded only while the port is EXECUTING, and no check byte may be missing for that. -/
theorem test_illFormed_commandWhileExecuting :
    WellFormed.commandWhileExecuting 0xA5 ((frameOf 0x46 []).drop 1) = true
      ∧ WellFormed.commandWhileExecuting 0xA5 ((frameOf 0x46 []).drop 2) = false
      ∧ WellFormed.commandWhileExecuting 0x5A ((frameOf 0x46 []).drop 1) = false := by decide +kernel

/-! ### Words and frames -/

/-- No row of the table gives bits (log 6). -/
theorem test_decode_none : decodeTableWord 16 5 = none ∧ State.reset.withFetchWord 16 5 = State.reset := ⟨rfl, rfl⟩

/-- The check value the manual gives for its CRC: the nine characters "123456789" give 0x29B1 (R149). -/
theorem test_crc : crc16 [0x31, 0x32, 0x33, 0x34, 0x35, 0x36, 0x37, 0x38, 0x39] = 0x29B1 := by decide +kernel

/-- The not-ready frame as the manual prints it (R161). -/
theorem test_notReady : frameOf 0x7F [] = [0xA5, 0x00, 0x7F, 0x77, 0x92] := by decide +kernel

/-! ### One worked step of each family -/

theorem test_tick_wraps :
    (after .corridorTimeTick { State.reset with time := 0xFFFFFFFF }).time = 0 := by decide +kernel

/-- A CHECK_IN above the ranges is clamped (R45): distance 5000 to 4000, speed 500 to 300, class 9 to 2. -/
theorem test_checkIn_clamps :
    ∃ r ∈ recordAt (after (.checkIn ⟨412, 0, 0, 9, 3, 5000, 500, none, some 0xFC00, some 200⟩) live) 0,
      r.distance = 4000 ∧ r.speed = some 300 ∧ r.cls = .headway ∧ r.deviation = some (-600) ∧ r.occupancy = some 150
        ∧ r.expiry = 2800 := by decide +kernel

/-- CHECK_IN at an approach without a priority step, and of vehicle 0 (R44). -/
theorem test_checkIn_refused :
    (after (.checkIn ⟨412, 0, 2, 0, 3, 50, 50, none, none, none⟩) live).notices[2].count = 1
      ∧ (after (.checkIn ⟨0, 0, 0, 0, 3, 50, 50, none, none, none⟩) live).notices[2].count = 1 := by decide +kernel

/-- "With a stored sequence of 250, updates carrying 251 to 255 and 0 to 121 are accepted"; 122 is not (R48). -/
theorem test_update_sequence :
    (recordAt (after (.update ⟨412, 0, 121, some 7, none, none, none, none⟩) candidate) 3).map Record.distance = some 7
      ∧ (recordAt (after (.update ⟨412, 0, 122, some 7, none, none, none, none⟩) candidate) 3).map Record.distance
        = some 300 := by decide +kernel

/-- A RECORD_FORCE of a candidate leaves it GRANTED at once where the grant is free, for its decision is fresh. -/
theorem test_force_offers :
    (recordAt (after (.recordForce ⟨0, 412, 0, 0, 0⟩) candidate) 3).map Record.status = some (.granted 8) := by
  decide +kernel

theorem test_checkOut_vacates :
    slotAt (after (.checkOut 412 0) candidate) 3 = { generation := 1, record := none }
      ∧ (junctionAt (after (.checkOut 412 0) candidate) 0).candidates = [] := by decide +kernel

/-- A served holder queues a RELEASE, sets the lockout and writes the summary (R116, R117). -/
theorem test_passage_serves :
    (let c := junctionAt (after (.passage 0 2 412) (granted true .extend)) 0
     c.releaseQueued = true ∧ c.lockout = 2 ∧ c.grant = none
       ∧ c.lastServed = some { vehicle := 412, kind := .extend, amount := 60, arrival := 1000 }) := by decide +kernel

/-- A cycle of 950 ds against C = 900 makes a debt of +50, which queues a TRIM of -50 (R126, R130). -/
theorem test_cycleStart_trims :
    (let s := at0 live fun c => { c with lastCycleStart := some 50 }
     let t := after (.cycleStart 0 10 7) s
     (junctionAt t 0).debt = 50 ∧ (junctionAt t 0).outstanding = some { kind := .trim (-50), tag := 8 }
       ∧ t.notices[5].count = 1) := by decide +kernel

/-- A STATUS of FREE sends a LIVE junction DARK(LOCAL_MODE), its position frozen (R9, R19). -/
theorem test_status_free :
    (junctionAt (after (.status 0 1) live) 0).sync = .dark .localMode
      ∧ (junctionAt (after (.status 0 1) live) 0).frozenPosition = 500 := by decide +kernel

theorem test_phaseEnd_wraps :
    (junctionAt (after (.phaseEnd 0 6) live) 0).currentStep = some 0
      ∧ (after (.phaseEnd 0 6) live).notices[5].count = 1 := by decide +kernel

theorem test_accept :
    (junctionAt (after (.accept 0 7) (granted false .advance)) 0).adjustment = -60
      ∧ modeOf (junctionAt (after (.accept 0 7) (granted false .advance)) 0) = .advancing := by decide +kernel

/-- The offered grant of `granted`, where a refresh has moved its holder to approach 1, which another step serves; slot 1
holds a record mapped to the grant step, slot 2 one mapped to another. -/
def movedHolder : State :=
  put 1 (aRecord 410 .pending none) (put 2 { aRecord 411 .pending none with approach := 1 }
    (put 3 { aRecord 412 (.granted 7) (some (.extend 60 false)) with approach := 1 } (granted false .extend)))

/-- "Every record of junction j whose approach the active plan maps to the grant step is enqueued … The holder is among
them" (R111). -/
theorem test_accept_enqueues :
    (after (.accept 0 7) (granted false .extend)).evalQueue = [3]
      ∧ (after (.accept 0 7) movedHolder).evalQueue = [1, 3]
      ∧ (after (.accept 0 7) { movedHolder with evalQueue := [3] }).evalQueue = [3, 1] := by decide +kernel

theorem test_decline :
    (recordAt (after (.decline 0 7 2) (granted false .extend)) 3).map Record.status = some .candidate
      ∧ (after (.decline 0 7 2) (granted false .extend)).notices[6].count = 1 := by decide +kernel

/-- "310 | 100 | 310 + trunc(-210 / 4) = 310 - 52 = 258, clamped | 300", from R144's table. -/
theorem test_sample_clamped :
    (segmentAt (handSample 1000 0 3 100 { State.reset with
        segments := State.reset.segments.set 5 (some ⟨.fresh 2000, 0, 3, 600, 300, 900, 540, 310, 1, 5⟩) }) 5).map
      Segment.estimate = some 300 := by decide +kernel

/-- "555 + trunc(-55 / 4) = 555 - 13", from R144's table: rounded toward zero. -/
theorem test_sample_rounds :
    (segmentAt (handSample 1000 0 3 500 { State.reset with
        segments := State.reset.segments.set 5 (some ⟨.fresh 2000, 0, 3, 600, 300, 900, 540, 555, 1, 5⟩) }) 5).map
      Segment.estimate = some 542 := by decide +kernel

/-- Debt limit 600 is in range and 601 is not (R164). -/
theorem test_policySet_range :
    (after (.policySet ⟨1200, 30, 60, 150, 20, 1, 20, 600, 60, 2, 1800, 15, 50, 10, 3000, 6000⟩) live).policy.debtLimit
        = 600
      ∧ (after (.policySet ⟨1200, 30, 60, 150, 20, 1, 20, 601, 60, 2, 1800, 15, 50, 10, 3000, 6000⟩)
        live).policy.debtLimit = 300 := by decide +kernel

/-- A read while nothing is held drives the not-ready frame from the second byte on, then 0x00 (R161). -/
theorem test_read_notReady :
    (after (.readTransaction 6) live).spiDriven.drop 1 = [0xA5, 0x00, 0x7F, 0x77, 0x92, 0x00] := by decide +kernel

theorem test_clear_releases :
    (after .corridorClear (granted true .extend)).directives.map Directive.kind = [.release]
      ∧ slotAt (after .corridorClear (granted true .extend)) 3 = { generation := 1, record := none } := by
  decide +kernel

/-! ### Operands that meet the hypotheses of each statement, clause by clause -/

theorem idle_takes_commands (s : State) (h : s.port = .idle) : ¬Busy s := by
  rintro ⟨r, t, e⟩
  simp [h] at e

theorem executing_is_busy (s : State) (r : Response) (t : Time) (h : s.port = .executing r t) : Busy s := ⟨r, t, h⟩

/-- Junction 0 LIVE, its queue holding a phase report. -/
def ready : State := { granted true .extend with pending := [.phaseEnd 0 2] }

theorem witness_StepRunsTheFrontCommand : State.reset.pending = [] ∧ steps ready = true := by decide +kernel

theorem witness_EveryCommandCompletesAndOnlyTheClockMovesTime :
    Instr.checkOut 1 0 ≠ .powerOn ∧ Instr.checkOut 1 0 ≠ .corridorTimeTick := by decide

theorem witness_StepKeepsTheNoticesAndTheRecoveryStateInRange :
    NoticesCounted (raise .soft ready) ∧ RecoveryBounded ready ∧ steps (raise .soft ready) = true
      ∧ steps ready = true := by
  unfold NoticesCounted RecoveryBounded PolicyBounded; decide +kernel

theorem plan_sound : PlanSound plan := by unfold PlanSound StepBounded; decide +kernel

theorem ready_clocks : ClocksSound ready := by
  have h1 : ∀ j : JunctionId, ∀ p ∈ (junctionAt ready j).activePlan, p = plan := by decide +kernel
  have h2 : ∀ j : JunctionId, (junctionAt ready j).stagedPlan = none := by decide +kernel
  have h3 : ∀ j : JunctionId, isLive (junctionAt ready j) = true →
      (junctionAt ready j).localMode = some .coord ∧ (junctionAt ready j).liveness.isSome = true
        ∧ (junctionAt ready j).lastCycleStart.isSome = true ∧ (junctionAt ready j).stepStart.isSome = true
        ∧ (junctionAt ready j).activePlan.isSome = true
        ∧ ∃ k ∈ (junctionAt ready j).currentStep, k < (activeSteps (junctionAt ready j)).length := by decide +kernel
  exact fun j => ⟨fun p hp => h1 j p hp ▸ plan_sound, fun p hp => by simp [h2 j] at hp,
    fun p _ q hq => by simp [h2 j] at hq, h3 j⟩

theorem witness_StepKeepsTheClocksSound : ClocksSound ready ∧ steps ready = true :=
  ⟨ready_clocks, by decide +kernel⟩

/-- Segment 5 FRESH from junction 1 to junction 0, and vehicle 7 last seen at junction 1. -/
def withSegment (s : State) (state : SegmentState) (streak : Nat) : State :=
  { setSegment 5 (some ⟨state, 1, 0, 600, 300, 900, 540, 540, streak, 5⟩) s with
    passages := [⟨7, 1, 400, 1000⟩] }

theorem segment_bounds :
    SegmentsBounded (withSegment ready (.fresh 1000) 2) ∧ PassagesBounded (withSegment ready (.fresh 1000) 2)
      ∧ AssemblersSound (withSegment ready (.fresh 1000) 2) := by
  refine ⟨⟨?_, by decide +kernel⟩, by unfold PassagesBounded; decide +kernel, ?_⟩
  · have h : ∀ k : SegmentId, ∀ g ∈ segmentAt (withSegment ready (.fresh 1000) 2) k,
        g = ⟨.fresh 1000, 1, 0, 600, 300, 900, 540, 540, 2, 5⟩ := by decide +kernel
    intro k g hg
    rw [h k g hg]
    simp [SegmentBounded]
  · exact ⟨trivial, trivial⟩

theorem witness_StepKeepsTheTablesAndAssemblersInRange :
    (SegmentsBounded (withSegment ready (.fresh 1000) 2) ∧ PassagesBounded (withSegment ready (.fresh 1000) 2)
      ∧ AssemblersSound (withSegment ready (.fresh 1000) 2)) ∧ steps (withSegment ready (.fresh 1000) 2) = true :=
  ⟨segment_bounds, by decide +kernel⟩

theorem ready_records : RecordsBounded ready ∧ QueueSound ready ∧ KeysDiffer ready := by
  unfold RecordsBounded RecordBounded QueueSound KeysDiffer; decide +kernel

theorem ready_recovery : RecoveryBounded ready := by unfold RecoveryBounded PolicyBounded; decide +kernel

/-- The bounds of a record's results, in a state with no evaluation in flight. -/
theorem ready_results : ResultsBounded ready ∧ GenerationsApart ready := by
  have h : ∀ i : SlotId, ∀ r ∈ recordAt ready i, r = aRecord 412 (.granted 7) (some (.extend 60 false)) := by decide +kernel
  have hf : ready.flight = none := rfl
  refine ⟨⟨fun i r hr => ?_, fun f hf' => ?_⟩, fun f hf' => ?_⟩
  · rw [h i r hr]
    exact ⟨by decide, by simp [aRecord], by simp [aRecord, DecisionBounded]⟩
  · simp [hf] at hf'
  · simp [hf] at hf'

theorem witness_StepKeepsTheRecordsAndTheQueueSound :
    (RecordsBounded ready ∧ QueueSound ready ∧ steps ready = true)
      ∧ RecoveryBounded ready ∧ ClocksSound ready ∧ ResultsBounded ready ∧ GenerationsApart ready :=
  ⟨⟨ready_records.1, ready_records.2.1, by decide +kernel⟩, ready_recovery, ready_clocks, ready_results⟩

theorem ready_table : TableConsistent ready := by
  unfold TableConsistent KeysDiffer OrdersExact GrantsHeld DarkHoldsNothing; decide +kernel

/-- Junction 0 with three candidates: a higher score before a lower one, and the earlier check-in of two equal scores. -/
def ranked : State :=
  put 2 { aRecord 413 .candidate (some (.extend 60 false)) with score := 200 }
    (put 1 { aRecord 414 .candidate (some (.extend 60 false)) with checkInTime := 995 }
      (at0 { candidate with pending := [.checkOut 413 0] } fun c => { c with candidates := [2, 3, 1] }))

theorem ranked_sorted : OrdersSorted ranked ∧ CheckInsRecent ranked := by
  unfold OrdersSorted CheckInsRecent RanksAbove
  refine ⟨?_, ?_⟩ <;> decide +kernel

theorem ranked_table : TableConsistent ranked := by
  unfold TableConsistent KeysDiffer OrdersExact GrantsHeld DarkHoldsNothing; decide +kernel

theorem witness_StepKeepsTheTableConsistent :
    (TableConsistent ready ∧ ResultsBounded ready ∧ GrantsBounded ready ∧ steps ready = true)
      ∧ (TableConsistent ranked ∧ CheckInsRecent ranked ∧ OrdersSorted ranked ∧ steps ranked = true)
      ∧ ∀ i : SlotId, ∀ r ∈ recordAt (after (.checkOut 413 0) ranked) i, timeDiff ranked.time r.checkInTime ≠ -2147483648 :=
  ⟨⟨ready_table, ready_results.1, by unfold GrantsBounded; decide +kernel, by decide +kernel⟩, ⟨ranked_table, ranked_sorted.2, ranked_sorted.1, by decide +kernel⟩, by decide +kernel⟩

theorem ready_directives : DirectivesSound ready := by unfold DirectivesSound; decide +kernel

theorem witness_StepKeepsTheDirectivesSound :
    DirectivesSound ready ∧ (∀ c ∈ ready.pending.head?, ¬AnswersUnsent ready c) ∧ steps ready = true :=
  ⟨ready_directives, by unfold AnswersUnsent; decide +kernel, by decide +kernel⟩

theorem witness_EveryFrameRenewsItsLink :
    deliveredMsg live (.status 15 0) = some (.status 15 0) ∧ junctionOf (msgJunction (.status 15 0)) = some 15
      ∧ Instr.status 16 0 ≠ .powerOn ∧ Instr.status 16 0 ≠ .livenessExpiry 0
      ∧ (∀ m, deliveredMsg live (.status 16 0) = some m → junctionOf (msgJunction m) ≠ some 0) := by
  refine ⟨rfl, by decide +kernel, by decide, by decide, ?_⟩
  rintro m h
  simp only [deliveredMsg, Option.some.injEq] at h
  subst h
  decide +kernel

/-- Junction 0 with its liveness deadline and its cycle limit at 1000, the present. -/
def expiring : State := at0 live fun c => { c with sync := .live 1000, liveness := some 1000 }

theorem witness_LivenessAndCycleLimitExpiriesGoDark :
    ((junctionAt expiring 0).liveness = some 1000 ∧ 0 ≤ timeDiff expiring.time 1000
      ∧ isLive (junctionAt expiring 0) = true ∧ (junctionAt expiring 0).sync = .live 1000)
    ∧ (let s := at0 expiring fun c => { c with sync := .dark .localMode }
       (junctionAt s 0).liveness = some 1000 ∧ isLive (junctionAt s 0) = false)
    ∧ ((junctionAt live 0).liveness = some 1040 ∧ timeDiff live.time 1040 < 0 ∧ timeDiff live.time 1001 < 0)
    ∧ (junctionAt live 0).sync = .live 1800 ∧ timeDiff live.time 1800 < 0 := by decide +kernel

theorem witness_StatusSetsTheModeAndReason :
    junctionOf 0 = some 0 ∧ (3 : Byte).toNat = modeNumber .manual ∧ 3 < (4 : Byte).toNat
      ∧ isLive (junctionAt live 0) = true ∧ isLive (junctionAt live 1) = false
      ∧ (junctionAt (heard 1 live) 1).sync = .dark .noPlan := by decide +kernel

/-- Junction 0 with a cycle of exactly C ending at 1000. -/
def onTime : State := at0 live fun c => { c with lastCycleStart := some 100, lockout := 1 }

theorem free_to_direct (s : State) (hd : s.directives = []) (h : (junctionAt s 0).grant = none)
    (ho : (junctionAt s 0).outstanding = none) : MayDirect s 0 := by
  refine ⟨h, ho, ?_⟩
  simp [hd]

theorem witness_CycleStartEndsOneCycleAndOpensTheNext :
    (junctionOf 0 = some 0 ∧ (junctionAt onTime 0).activePlan = some plan
      ∧ (junctionAt onTime 0).stagedPlan.map Plan.planId ≠ some plan.planId ∧ isLive (junctionAt onTime 0) = true
      ∧ (junctionAt onTime 0).lastCycleStart = some 100)
    ∧ (max (-999) (min 999 ((junctionAt onTime 0).debt + (timeDiff onTime.time 100 - plan.cycle))) = 0)
    ∧ (max (-999) (min 999 ((junctionAt live 0).debt + (timeDiff live.time 500 - plan.cycle))) = -400
      ∧ MayDirect live 0) :=
  ⟨by decide +kernel, by decide +kernel, by decide +kernel, free_to_direct live rfl (by decide +kernel) (by decide +kernel)⟩

/-- Junction 0 DARK, with the plan it held. -/
def darkened : State := at0 live fun c => { c with sync := .dark .awaitingCycle }

theorem witness_CycleStartEntersLiveOrMismatches :
    (junctionOf 0 = some 0 ∧ (junctionAt darkened 0).stagedPlan.map Plan.planId ≠ some 7
      ∧ (junctionAt darkened 0).activePlan = some plan ∧ plan.planId = 7 ∧ isLive (junctionAt darkened 0) = false)
    ∧ (junctionAt darkened 1).activePlan = none
    ∧ (junctionAt darkened 0).stagedPlan.map Plan.planId ≠ some 8 ∧ plan.planId ≠ 8
      ∧ isLive (junctionAt live 0) = true := by decide +kernel

/-- Junction 0 with a second plan staged. -/
def staged (s : State) : State := at0 s fun c => { c with stagedPlan := some { plan with planId := 8 } }

theorem witness_CycleStartAdoptsTheStagedPlan :
    TableConsistent (staged ready) ∧ junctionOf 0 = some 0
      ∧ (junctionAt (staged ready) 0).stagedPlan = some { plan with planId := 8 } := by
  refine ⟨?_, by decide +kernel⟩
  unfold TableConsistent KeysDiffer OrdersExact GrantsHeld DarkHoldsNothing; decide +kernel

theorem phase_of_step (s : State) (h : activeSteps (junctionAt s 0) = plan.steps) :
    (∀ i, ((activeSteps (junctionAt s 0))[i]?).map PlanStep.phase = some 2 ↔ i = 0)
      ∧ ∀ i, ((activeSteps (junctionAt s 0))[i]?).map PlanStep.phase = some 6 ↔ i = 2 := by
  rw [h]
  constructor <;> (intro i; rcases i with _ | _ | _ | i <;> simp [plan])

theorem witness_PhaseReportsMoveTheStep :
    (junctionOf 0 = some 0 ∧ isLive (junctionAt ready 0) = true
      ∧ (∀ i, ((activeSteps (junctionAt ready 0))[i]?).map PlanStep.phase = some (6 : Byte).toNat ↔ i = 2)
      ∧ (∀ i ∈ (junctionAt ready 0).currentStep, i < (activeSteps (junctionAt ready 0)).length)
      ∧ (∀ g ∈ (junctionAt ready 0).grant, g.step ≠ 2))
    ∧ (∀ st ∈ activeSteps (junctionAt ready 0), st.phase ≠ (5 : Byte).toNat) ∧ isLive (junctionAt ready 1) = false := by
  refine ⟨⟨by decide +kernel, by decide +kernel, (phase_of_step ready (by decide +kernel)).2, ?_⟩, ?_⟩ <;>
    decide +kernel

theorem witness_PhaseReportsEndTheGrant :
    (junctionOf 0 = some 0 ∧ isLive (junctionAt ready 0) = true
      ∧ (junctionAt ready 0).grant = some ⟨true, 3, 0, 0, .extend, 60, 990⟩
      ∧ recordAt ready 3 = some (aRecord 412 (.granted 7) (some (.extend 60 false))))
    ∧ (∀ i, ((activeSteps (junctionAt ready 0))[i]?).map PlanStep.phase = some (2 : Byte).toNat ↔ i = 0)
    ∧ (∀ i ∈ (junctionAt ready 0).currentStep, i < (activeSteps (junctionAt ready 0)).length)
    ∧ (junctionAt (granted true .advance) 0).grant = some ⟨true, 3, 0, 0, .advance, 60, 990⟩ :=
  ⟨by decide +kernel, (phase_of_step ready (by decide +kernel)).1, by decide +kernel, by decide +kernel⟩

/-- A CHECK_IN of vehicle 65534 at junction 0 and approach 0. -/
def aCheckIn : CheckInMsg := ⟨65534, 0, 0, 1, 4, 300, 100, none, none, none⟩

/-- A CHECK_IN that refreshes the record of vehicle 412. -/
def aRefresh : CheckInMsg := ⟨412, 0, 3, 1, 4, 300, 100, none, none, none⟩

/-- Every slot occupied. -/
def fullTable : State :=
  { live with
    slots := Vector.ofFn fun i : SlotId =>
      { generation := 0, record := some (aRecord (.ofNat 16 (i.val + 1)) (.tracking .covered) none) } }

theorem witness_CheckInCreatesARecord :
    (Admits live aCheckIn 0 0 ∧ (∀ i : SlotId, ¬HoldsKey live i aCheckIn.vehicle aCheckIn.junction)
      ∧ recordAt live 0 = none ∧ (∀ k : SlotId, k < 0 → (recordAt live k).isSome = true) ∧ (0 : SlotId) ∉ live.evalQueue)
    ∧ (Admits fullTable aCheckIn 0 0
      ∧ (∀ i : SlotId, ¬HoldsKey fullTable i aCheckIn.vehicle aCheckIn.junction)
      ∧ ∀ i : SlotId, (recordAt fullTable i).isSome = true) := by
  unfold Admits HoldsKey; decide +kernel

theorem witness_CheckInIsRefused :
    ∀ (j : JunctionId) (q : Fin 4), ¬Admits live { aCheckIn with vehicle := 65535 } j q := by
  unfold Admits; decide +kernel

theorem witness_CheckInRefreshesItsRecord :
    KeysDiffer candidate ∧ Admits candidate aRefresh 0 3
      ∧ recordAt candidate 3 = some (aRecord 412 .candidate (some (.extend 60 false))) := by
  unfold KeysDiffer Admits; decide +kernel

theorem candidate_records : RecordsBounded candidate ∧ KeysDiffer candidate := by
  unfold RecordsBounded RecordBounded KeysDiffer; decide +kernel

theorem witness_UpdateIsMatchedAndAccepted :
    (RecordsBounded candidate ∧ KeysDiffer candidate) ∧ (∀ i : SlotId, ¬HoldsKey candidate i 65535 0)
      ∧ HoldsKey candidate 3 412 0 ∧ (recordAt candidate 3).map Record.sequence = some 250
      ∧ 1 ≤ ((121 : Byte) - 250).toNat ∧ ((121 : Byte) - 250).toNat ≤ 127 ∧ 127 < ((122 : Byte) - 250).toNat := by
  refine ⟨candidate_records, ?_⟩
  unfold HoldsKey; decide +kernel

theorem witness_RetiringCommandsRetireTheirRecord :
    (RecordsBounded candidate ∧ KeysDiffer candidate) ∧ junctionOf 0 = some 0 ∧ HoldsKey candidate 3 412 0
      ∧ (recordAt candidate 3).map Record.expiry = some 1000 ∧ 0 ≤ timeDiff candidate.time 1000
      ∧ candidate.port = .idle ∧ (slotAt candidate 3).generation = 0
      ∧ (∀ i : SlotId, ¬HoldsKey candidate i 413 0) ∧ recordAt candidate 95 = none
      ∧ timeDiff { candidate with time := 999 }.time 1000 < 0 ∧ 15 < (16 : Byte).toNat := by
  refine ⟨candidate_records, ?_⟩
  unfold HoldsKey; decide +kernel

theorem witness_RetirementVacatesTheSlot :
    recordAt candidate 3 = some (aRecord 412 .candidate (some (.extend 60 false)))
      ∧ recordAt fullTable 95 = some (aRecord 96 (.tracking .covered) none)
      ∧ tagOf (.tracking .covered) = none := by decide +kernel

theorem witness_RetiredHolderEndsItsGrant :
    (∀ accepted, recordAt (granted accepted .extend) 3 = some (aRecord 412 (.granted 7) (some (.extend 60 false)))
      ∧ (junctionAt (granted accepted .extend) 0).grant = some ⟨accepted, 3, 0, 0, .extend, 60, 990⟩)
    ∧ 0 < (activeSteps (junctionAt (granted true .extend) 0)).length := by decide +kernel

/-- Slot 3 at the head of the evaluation queue. -/
def waiting : State := { candidate with evalQueue := [3] }

/-- Slot 3 in flight. -/
def evaluating : State :=
  { candidate with
    flight := some
      { slot := 3, generation := 0, te := 1000,
        reads := readsOf candidate (aRecord 412 .candidate (some (.extend 60 false))) } }

theorem met_iff (now : Time) (d : Option Time) : Met now d ↔ d.all (fun x => decide (timeDiff now x ≤ 0)) = true := by
  cases d <;> simp [Met]

/-- A start is due, and the next command is no tick. -/
theorem waiting_timely :
    Timely { waiting with pending := [.noticeRead] } ∧ StartDue { waiting with pending := [.noticeRead] } := by
  simp only [Timely, met_iff, StartDue]
  refine ⟨⟨?_, ?_, ?_, ?_, ?_, ?_, ?_, ?_, trivial, ?_⟩, ?_⟩ <;> decide +kernel

theorem witness_EvaluationStartsAtTheHead :
    (waiting.flight = none ∧ waiting.evalQueue = [3] ∧ (recordAt waiting 3).isSome = true)
      ∧ (evaluating.flight.isSome = true ∧ candidate.evalQueue = [])
      ∧ (Timely { waiting with pending := [.noticeRead] } ∧ StartDue { waiting with pending := [.noticeRead] }
        ∧ steps { waiting with pending := [.noticeRead] } = true ∧ StartDue (after .noticeRead waiting)) :=
  ⟨by decide +kernel, by decide +kernel, waiting_timely.1, waiting_timely.2, by unfold StartDue; decide +kernel⟩

/-- The walk of the plan from its second step. -/
def aWalk (g : Option GrantView) : WalkInput where
  steps := plan.steps
  current := 1
  elapsed := 100
  grant := g

theorem witness_WalkFollowsThePlanAndTheGrant :
    ((aWalk none).current < (aWalk none).steps.length ∧ 2 < (aWalk none).steps.length
      ∧ (aWalk (some ⟨.offered, 0, .extend, 60⟩)).current ≠ 0)
    ∧ (∀ mode, 0 < (aWalk (some ⟨mode, 0, .extend, 60⟩)).steps.length
      ∧ (aWalk (some ⟨mode, 1, .extend, 60⟩)).current = 1
      ∧ (2 : Nat) ≠ (aWalk (some ⟨mode, 0, .extend, 60⟩)).current ∧ 2 < (aWalk (some ⟨mode, 0, .extend, 60⟩)).steps.length
      ∧ (aWalk (some ⟨mode, 0, .extend, 60⟩)).grant = some ⟨mode, 0, .extend, 60⟩) := by
  refine ⟨by decide, fun mode => ?_⟩
  cases mode <;> decide

/-- A walk whose target green is itself the donor of the advance: C = 900, steps of 850 and 50, step 0 just begun, ADVANCING
on step 1 by 400. -/
def donorTarget : WalkInput where
  steps := [⟨2, 850, 30, false, 0, 0⟩, ⟨4, 50, 30, false, 0, 400⟩]
  current := 0
  elapsed := 0
  grant := some ⟨.advancing, 1, .advance, 400⟩

/-- G_e stays at the plan's 850 and F falls by 400 to 500 (R30, log 24). -/
theorem test_walk_donorTarget :
    (walk donorTarget 0 300 0).greenStart = 0 ∧ (walk donorTarget 0 300 0).greenEnd = 850
      ∧ (walk donorTarget 0 300 0).nextGreen = 500 := by decide

theorem witness_SlacksComeFromYieldsAndHeadrooms :
    (aWalk none).current < (aWalk none).steps.length ∧ 2 < (aWalk none).steps.length ∧ (aWalk none).current ≠ 2
      ∧ { aWalk none with current := 2 }.current < (aWalk none).steps.length := by decide

/-- What an evaluation of the candidate reads. -/
def someReads : Reads := readsOf candidate (aRecord 412 .candidate (some (.extend 60 false)))

/-- A travel time from the speed at its lowest usable value, from a segment, at the bar, and none at all; and remaining
times at the horizon and beyond it. -/
theorem witness_ForecastFollowsTheTravelTime :
    (∀ g ∈ someReads.segment, 0 < g.length)
    ∧ TravelTime { someReads with speed := some 20, distance := 240 } 1200 .speed
    ∧ TravelTime { someReads with speed := some 20, distance := 241 } 1205 .speed
    ∧ TravelTime { someReads with distance := 0 } 0 .speed
    ∧ TravelTime { someReads with speed := some 19, segment := some ⟨true, 540, 600⟩ } 270 .segment
    ∧ someReads.horizon = 1200 := by
  unfold TravelTime IsCeiling; decide +kernel

theorem witness_indefinite : ∀ tau src, ¬TravelTime { someReads with speed := some 19 } tau src := by
  intro tau src h
  have h1 : someReads.segment = none := by decide +kernel
  have h2 : someReads.distance = 300 := by decide +kernel
  rcases h with h | ⟨-, -, v, hv, h20, -⟩ | ⟨-, -, -, g, hg, -⟩
  · simp [h2] at h
  · simp at hv
    omega
  · simp [h1] at hg

/-- A walk result with its greens from 0 to 100 or 50 to 100, and again at 300. -/
def aResult (gs : Nat) : WalkResult := ⟨0, gs, 100, 300, 120, 60, 60⟩

/-- Each case of R67 at the edge it shares with its neighbour, and each row of R73 at Gmin = 20. -/
theorem witness_DecisionFollowsTheWindow :
    ((aResult 50).greenStart ≤ (aResult 50).greenEnd
      ∧ (let w := walk donorTarget 0 300 0
         w.greenStart ≤ w.greenEnd ∧ decisionCase someReads w 500 520 = .far ∧ decisionCase someReads w 499 520 = .none))
      ∧ decisionCase someReads (aResult 50) 300 300 = .far ∧ decisionCase someReads (aResult 50) 50 100 = .none
      ∧ decisionCase someReads (aResult 50) 100 100 = .none ∧ decisionCase someReads (aResult 50) 49 100 = .advance 20 false
      ∧ decisionCase someReads (aResult 50) 99 101 = .extend 20 false
      ∧ decisionCase someReads (aResult 50) 100 221 = .advance 60 true
      ∧ decisionCase someReads (aResult 50) 299 299 = .advance 20 false := by decide +kernel

/-- Each path of R66: DARK, no priority step, BEYOND and INDEFINITE, and a window. -/
theorem witness_DecidedAmountFitsMaximumAndHeadroom :
    ({ someReads with live := false }.live = false ∧ someReads.live = true)
      ∧ (({ someReads with approach := 2 }.plan.bind fun p => (p.approaches[(2 : Fin 4)]).priority) = none)
      ∧ ((someReads.plan.bind fun p => (p.approaches[someReads.approach]).priority) = some 0)
      ∧ forecastOf { someReads with speed := none } 1000 = .indefinite 1000
      ∧ forecastOf { someReads with speed := some 20 } 1000 = .beyond 1000 1495 .speed
      ∧ forecastOf { someReads with distance := 0 } 1000 = .atBar 1000 0 0 30 .speed
      ∧ (evaluate { someReads with distance := 0 } 1000).decision = .store { kind := .advance 120 true, time := 1000 } := by
  decide +kernel

theorem witness_ScoreFollowsTheFormula :
    someReads.cls ≠ .forced ∧ (150 : Nat) = (if someReads.cls = .schedule then 0 else if someReads.cls = .late then 150 else 300)
      ∧ scoreOf someReads (.extend 400) = 50 ∧ scoreOf someReads .none = 150
      ∧ scoreOf { someReads with cls := .forced } .none = 1023 := by decide +kernel

/-- The record in flight restated. -/
def restated : State := onRecord 3 (fun r => { r with changedInFlight := true }) evaluating

theorem witness_LostOrRestatedResultsAreDiscarded :
    candidate.flight = none ∧ evaluating.flight.map Flight.slot = some 3 ∧ (recordAt (onSlot 3 vacated evaluating) 3) = none
      ∧ (slotAt (onSlot 3 (fun sl => { sl with generation := 1 }) evaluating) 3).generation ≠ 0
      ∧ (recordAt restated 3).map Record.changedInFlight = some true ∧ (slotAt restated 3).generation = 0 := by
  decide +kernel

/-- A record of phase 2 that an accepted grant covers, and whose grant has ended. -/
def covered (grant : Bool) : State :=
  let s := granted true .extend
  let r := aRecord 413 .riding (some .none)
  let s := put 4 r s
  { (if grant then s else at0 s fun c => { c with grant := none }) with
    flight := some { slot := 4, generation := 0, te := 1000, reads := readsOf s { r with distance := 600 } } }

theorem witness_CompletionStoresTheResultsAndSetsTheState :
    (∀ grant, (covered grant).flight.map Flight.slot = some 4
      ∧ recordAt (covered grant) 4 = some (aRecord 413 .riding (some .none)) ∧ (slotAt (covered grant) 4).generation = 0)
    ∧ (∀ f ∈ (covered true).flight, AcceptedOn (junctionAt (covered true) 0) (readPriority f.reads)
        ∧ (decisionOf f.reads f.te).2 = .none)
    ∧ (∀ f ∈ (covered false).flight, ¬AcceptedOn (junctionAt (covered false) 0) (readPriority f.reads)
        ∧ ReadAccepted f.reads ∧ f.reads.grant.map GrantView.step = readPriority f.reads) := by
  unfold AcceptedOn ReadAccepted; decide +kernel

/-- The holder in flight, its evaluation having read the grant state given. -/
def judged (read : State) (distance : Nat) : State :=
  { granted true .extend with
    flight := some
      { slot := 3, generation := 0, te := 1000,
        reads := { readsOf read (aRecord 412 (.granted 7) none) with distance := distance } } }

theorem witness_HolderRuleJudgesTheGrant :
    (∀ d, d = 0 ∨ d = 4000 →
      (judged ready d).flight.isSome = true ∧ (slotAt (judged ready d) 3).generation = 0
        ∧ recordAt (judged ready d) 3 = some (aRecord 412 (.granted 7) (some (.extend 60 false)))
        ∧ (junctionAt (judged ready d) 0).grant = some ⟨true, 3, 0, 0, .extend, 60, 990⟩
        ∧ 0 < (activeSteps (junctionAt (judged ready d) 0)).length)
    ∧ (∀ f ∈ (judged ready 4000).flight, ReadAccepted f.reads ∧ (decisionOf f.reads f.te).2 = .beyond)
    ∧ (∀ f ∈ (judged live 4000).flight, ¬ReadAccepted f.reads) := by
  refine ⟨?_, ?_⟩
  · rintro d (rfl | rfl) <;> decide +kernel
  · unfold ReadAccepted; decide +kernel

/-- A second candidate behind a stale one. -/
def behindStale : State :=
  put 3 { aRecord 412 .candidate (some (.extend 60 false)) with decision := some ⟨.extend 60 false, 979⟩ }
    (put 5 { aRecord 413 .candidate (some (.advance 40 true)) with decision := some ⟨.advance 40 true, 980⟩ }
      (at0 live fun c => { c with candidates := [3, 5] }))

theorem live_may_direct : MayDirect live 0 ∧ MayDirect behindStale 0 :=
  ⟨free_to_direct _ rfl (by decide +kernel) (by decide +kernel),
    free_to_direct _ rfl (by decide +kernel) (by decide +kernel)⟩

/-- The decision life is 20: a decision reached at 980 is fresh at 1000, and one reached at 979 is stale. -/
theorem witness_IssueCheckOffersTheFirstQualifyingCandidate :
    (isLive (junctionAt behindStale 0) = true ∧ (junctionAt behindStale 0).suspended = false ∧ MayDirect behindStale 0)
    ∧ (∀ k ∈ [(3 : SlotId)], ∃ r ∈ recordAt behindStale k, PassedOver 1000 0 behindStale r)
    ∧ ((junctionAt behindStale 0).candidates = [3] ++ 5 :: [] ∧ (5 : SlotId) ∉ [(3 : SlotId)]
      ∧ (∃ r ∈ recordAt behindStale 5, ¬PassedOver 1000 0 behindStale r ∧ r.decision = some ⟨.advance 40 true, 980⟩
          ∧ priorityOf (junctionAt behindStale 0) r.approach = some 0)
      ∧ (activeSteps (junctionAt behindStale 0))[0]? = some ⟨2, 400, 150, false, 120, 120⟩)
    ∧ (junctionAt live 0).candidates = [] ∧ isLive (junctionAt live 1) = false
    ∧ (junctionAt (granted true .extend) 0).grant.isSome = true := by
  unfold PassedOver
  exact ⟨⟨by decide +kernel, by decide +kernel, live_may_direct.2⟩, by decide +kernel⟩

theorem witness_AcceptStartsTheGrant :
    ∀ kind, (junctionAt (granted false kind) 0).grant = some ⟨false, 3, 0, 0, kind, 60, 990⟩
      ∧ grantTagAt (granted false kind) 3 = some 7
      ∧ (junctionAt (granted false kind) 0).outstanding = some { kind := outstandingOf kind, tag := 7 } := by
  rintro (_ | _) <;> decide +kernel

/-- The same hypotheses with a holder mapped to another step (log 23). -/
theorem witness_AcceptStartsTheGrant_moved :
    (junctionAt movedHolder 0).grant = some ⟨false, 3, 0, 0, .extend, 60, 990⟩ ∧ grantTagAt movedHolder 3 = some 7
      ∧ (junctionAt movedHolder 0).outstanding = some { kind := .extend, tag := 7 }
      ∧ ∃ r ∈ recordAt movedHolder 3, priorityOf (junctionAt movedHolder 0) r.approach = some 1 := by decide +kernel

theorem witness_DeclineOrTimeoutHandsTheGrantBack :
    (junctionAt (granted false .extend) 0).grant = some ⟨false, 3, 0, 0, .extend, 60, 990⟩
      ∧ recordAt (granted false .extend) 3 = some (aRecord 412 (.granted 7) (some (.extend 60 false)))
      ∧ (junctionAt (granted false .extend) 0).outstanding = some { kind := .extend, tag := 7 }
      ∧ (junctionAt (granted false .extend) 0).acceptDeadline = some 1000
      ∧ 0 ≤ timeDiff (granted false .extend).time 1000
      ∧ timeDiff { granted false .extend with time := 999 }.time 1000 < 0
      ∧ (junctionAt live 0).acceptDeadline = none
      ∧ (junctionAt (at0 live fun c => { c with acceptDeadline := some 1000 }) 0).outstanding = none := by decide +kernel

/-- Junction 0 with an EXTEND outstanding whose holder has gone. -/
def orphaned : State :=
  at0 live fun c => { c with outstanding := some { kind := .extend, tag := 7 }, acceptDeadline := some 1000 }

theorem witness_LateAnswersAreReleased :
    (currentTag orphaned 0 ≠ some 7 ∧ (junctionAt orphaned 0).outstanding = some { kind := .extend, tag := 7 }
      ∧ (junctionAt orphaned 0).acceptDeadline = some 1000 ∧ 0 ≤ timeDiff orphaned.time 1000)
    ∧ (currentTag (granted true .extend) 0 ≠ some 7 ∧ (junctionAt (granted true .extend) 0).outstanding = none
      ∧ grantTagAt (granted true .extend) 3 = some 7) ∧ (∀ n, OutstandingKind.extend ≠ .trim n) := by
  refine ⟨by decide +kernel, by decide +kernel, fun n h => by cases h⟩

theorem witness_TrimAnswersEndTheTrim :
    (let s := at0 live fun c => { c with outstanding := some { kind := .trim (-50), tag := 7 }, acceptDeadline := some 1000 }
     (junctionAt s 0).outstanding = some { kind := .trim (-50), tag := 7 } ∧ (junctionAt s 0).acceptDeadline = some 1000
       ∧ 0 ≤ timeDiff s.time 1000) := by decide +kernel

theorem witness_PassageIsPairedAndWritten :
    (PassagesBounded (withSegment ready (.fresh 1000) 2) ∧ SegmentsBounded (withSegment ready (.fresh 1000) 2))
    ∧ (⟨7, 1, 400, 1000⟩ ∈ (withSegment ready (.fresh 1000) 2).passages ∧ (1 : JunctionId) ≠ 0
      ∧ ∃ g ∈ segmentAt (withSegment ready (.fresh 1000) 2) 5, g.source = 1 ∧ g.target = 0)
    ∧ (∀ e ∈ (withSegment ready (.fresh 1000) 2).passages, e.vehicle ≠ 65534)
    ∧ 1 ≤ (65534 : Half).toNat ∧ (65534 : Half).toNat ≤ 65534 ∧ ¬((65535 : Half).toNat ≤ 65534) :=
  ⟨⟨segment_bounds.2.1, segment_bounds.1⟩, by decide +kernel⟩

/-- Every row of R145 and both edges of R144 have a segment: Tcap is 900. -/
theorem witness_SamplesMoveTheEstimate :
    SegmentsBounded (withSegment ready (.fresh 1000) 2)
      ∧ (∀ st n, segmentAt (withSegment live st n) 5 = some ⟨st, 1, 0, 600, 300, 900, 540, 540, n, 5⟩)
      ∧ (900 : Int) ≤ (900 : Nat) ∧ ((900 : Nat) : Int) < 901 := by
  refine ⟨segment_bounds.1, fun st n => ?_, by decide, by decide⟩
  simp [withSegment, segmentAt, setSegment]

theorem witness_StaleAndEntryDeadlinesExpire :
    (segmentAt (withSegment live (.fresh 1000) 2) 5 = some ⟨.fresh 1000, 1, 0, 600, 300, 900, 540, 540, 2, 5⟩
      ∧ 0 ≤ timeDiff live.time 1000 ∧ timeDiff live.time 1001 < 0)
    ∧ (∀ g ∈ segmentAt (withSegment live .stale 3) 5, g.state = .stale)
    ∧ PassagesBounded (withSegment ready (.fresh 1000) 2)
    ∧ (withSegment ready (.fresh 1000) 2).passages = [] ++ ⟨7, 1, 400, 1000⟩ :: []
    ∧ (∀ e ∈ (withSegment ready (.fresh 1000) 2).passages, e.vehicle ≠ 8) :=
  ⟨by decide +kernel, by decide +kernel, segment_bounds.2.1, by decide +kernel⟩

theorem witness_FrameBytesDeliverTheirMessage :
    live.detectionRx = .hunt ∧ live.junctionRx = .hunt
      ∧ DetectionLayout 0x13 [0x9C, 0x01, 0x00] (.checkOut 412 0)
      ∧ JunctionLayout 0x21 [0x0F, 0x03] (.status 15 3)
      ∧ (0x12, [0x9C, 0x01, 0, 7, 0, 0, 0, 0, 0, 0, 0, 0, 0, 0].length) ∈ linkKinds .detection
      ∧ (0x27, [(0 : Byte), 7, 2].length) ∈ linkKinds .junction := by
  unfold DetectionLayout JunctionLayout Safety.Field; decide +kernel

/-- An assembler in a phase of a frame, its gap deadline at the present. -/
def receiving (p : RxPhase) (taken : List Byte) : State := { live with junctionRx := .receiving p taken 1000 }

theorem witness_DiscardedFramesRaiseFrameError :
    (gapOf (assemblerOf (receiving .length []) .junction) = some 1000 ∧ 0 ≤ timeDiff live.time 1000)
      ∧ assemblerOf live .junction = .hunt ∧ assemblerOf (receiving .length []) .junction ≠ .hunt
      ∧ assemblerOf (receiving .kind [3]) .junction = .receiving .kind [3] 1000
      ∧ bodySize .junction 0x21 ≠ some (takenLength [3])
      ∧ assemblerOf (receiving .check [2, 0x21, 0, 0, 1]) .junction = .receiving .check [2, 0x21, 0, 0, 1] 1000
      ∧ takenLength [2, 0x21, 0, 0, 1] = 2
      ∧ assemblerOf (receiving .kind [2]) .junction = .receiving .kind [2] 1000
      ∧ bodySize .junction 0x21 = some (takenLength [2])
      ∧ assemblerOf (receiving .body [2, 0x21, 0]) .junction = .receiving .body [2, 0x21, 0] 1000
      ∧ [2, 0x21, 0].length + 1 = takenLength [2, 0x21, 0] + 2
      ∧ assemblerOf (receiving .check [2, 0x21, 0, 0]) .junction = .receiving .check [2, 0x21, 0, 0] 1000
      ∧ [2, 0x21, 0, 0].length = takenLength [2, 0x21, 0, 0] + 2
      ∧ [byteAt [2, 0x21, 0, 0, 1] 4, 0] ≠ le16 (crc16 [2, 0x21, 0, 0])
      ∧ 15 < (msgJunction (.status 16 0)).toNat := by decide +kernel

/-- Two directives WAITING on an idle line, a RELEASE behind an EXTEND. -/
def queuedUp : State :=
  at0 { live with directives := [⟨0, .extend 2 60, 7, false⟩, ⟨0, .release, 6, false⟩] } fun c =>
    { c with releaseQueued := true }

/-- A directive on the line. -/
def sendingOne (k : DirectiveKind) : State :=
  { live with directives := [⟨0, k, 7, true⟩], transmitter := some { frame := [], since := 1000 } }

theorem witness_TransmitterTakesReleasesFirst :
    (queuedUp.transmitter = none ∧ queuedUp.directives = [⟨0, .extend 2 60, 7, false⟩] ++ ⟨0, .release, 6, false⟩ :: []
      ∧ (junctionAt queuedUp 0).releaseQueued = true ∧ (junctionAt live 0).releaseQueued = false
      ∧ live.directives = [] ∧ live.transmitter = none ∧ (sendingOne .release).transmitter.isSome = true)
    ∧ (∀ e ∈ ([⟨0, .extend 2 60, 7, false⟩] : List Directive), e.kind ≠ .release) := by decide +kernel

theorem witness_SentEventFreesTheLine :
    live.transmitter = none ∧ ∀ k, (sendingOne k).transmitter.isSome = true
      ∧ (sendingOne k).directives = [] ++ ⟨0, k, 7, true⟩ :: [] := by
  exact ⟨rfl, fun k => ⟨rfl, rfl⟩⟩

/-- The port EXECUTING a NOTICE_READ. -/
def executing : State := { live with port := .executing { kind := 0x4F, code := .ok, result := [] } 1000 }

theorem live_takes_commands : ¬Busy live ∧ Busy executing := ⟨idle_takes_commands _ rfl, executing_is_busy _ _ _ rfl⟩

theorem witness_PortTakesACommandUnlessExecuting :
    supervisorCommand .noticeRead = some .noticeRead ∧ readsOnly .noticeRead = true ∧ ¬Busy live ∧ Busy executing :=
  ⟨rfl, rfl, live_takes_commands⟩

theorem witness_TransactionsAreReadByTheirBytes :
    supervisorCommand (.junctionQuery 3) = some (.junctionQuery 3)
      ∧ CommandLayout 0x47 [3] (.junctionQuery 3)
      ∧ 0xA5#8 :: (frameOf 0x47 [3]).drop 1 = frameOf 0x47 [3]
      ∧ (0x4C : Byte) = commandNumber (.recordForce ⟨0, 0, 0, 0, 0⟩)
      ∧ [(0 : Byte), 0, 0, 0, 0, 0].length = commandLength (.recordForce ⟨0, 0, 0, 0, 0⟩)
      ∧ (∀ kind body, 0xA5#8 :: [] ≠ frameOf kind body) := by
  refine ⟨rfl, by unfold CommandLayout Safety.Field; decide +kernel, by decide +kernel, by decide, by decide, ?_⟩
  intro kind body h
  have := congrArg List.length h
  simp [frameOf] at this

theorem witness_ReadsReturnTheHeldResponse :
    (∀ mark, { live with port := .ready ⟨0x4F, .ok, []⟩ mark }.port = .ready ⟨0x4F, .ok, []⟩ mark)
      ∧ (∀ r mark, live.port ≠ .ready r mark) ∧ executing.port = .executing ⟨0x4F, .ok, []⟩ 1000 := by
  refine ⟨fun _ => rfl, fun r mark h => ?_, rfl⟩
  have : live.port = .idle := rfl
  simp [this] at h

/-- The PLAN_STAGE body of the plan, with an id. -/
def planBody (id : Byte) : PlanBody where
  junction := 0
  planId := id
  cycle := 900
  count := 3
  steps := #v[⟨2, 400, 150, 0, 120, 120⟩, ⟨4, 300, 120, 0, 40, 40⟩, ⟨6, 200, 200, 1, 0, 0⟩, ⟨0, 0, 0, 0, 0, 0⟩,
    ⟨0, 0, 0, 0, 0, 0⟩, ⟨0, 0, 0, 0, 0, 0⟩, ⟨0, 0, 0, 0, 0, 0⟩, ⟨0, 0, 0, 0, 0, 0⟩]
  approaches := #v[⟨0, 5⟩, ⟨1, 0xFF⟩, ⟨0xFF, 0xFF⟩, ⟨0, 31⟩]

theorem planBody_fields : PlanFields (planBody 7) ∧ PlanFields (planBody 255) ∧ ¬PlanFields (planBody 0) := by
  unfold PlanFields
  refine ⟨?_, ?_, ?_⟩ <;> decide +kernel

theorem witness_PlanStageFillsTheStagedSlot :
    (PlanFields (planBody 7) ∧ PlanFields (planBody 255) ∧ ¬PlanFields (planBody 0)) ∧ ¬Busy live
      ∧ planIdOf (junctionAt live 0).activePlan = some (planBody 7).planId
      ∧ planIdOf (junctionAt live 0).activePlan ≠ some (planBody 255).planId
      ∧ junctionOf (planBody 7).junction = some 0 :=
  ⟨planBody_fields, live_takes_commands.1, by decide +kernel⟩

theorem witness_PlanReadReturnsWhatWasStaged :
    PlanSound plan ∧ ¬Busy live ∧ (junctionAt live 0).activePlan = some plan
      ∧ (junctionAt (at0 live fun c => { c with stagedPlan := some plan }) 0).stagedPlan = some plan
      ∧ planIdOf (junctionAt live 1).activePlan ≠ some plan.planId :=
  ⟨plan_sound, live_takes_commands.1, by decide +kernel⟩

theorem witness_ReadCommandsAnswerByTheirOperands :
    ¬Busy live ∧ 15 < (16 : Byte).toNat ∧ junctionOf 15 = some 15 ∧ junctionOf 0 = some 0 ∧ 1 < (2 : Byte).toNat
      ∧ (junctionAt live 15).activePlan = none ∧ (junctionAt live 15).stagedPlan = none ∧ 31 < (32 : Byte).toNat
      ∧ (31 : Byte).toNat = (31 : SegmentId).val ∧ segmentAt live 31 = none
      ∧ (segmentAt (withSegment live .stale 3) 5).isSome = true :=
  ⟨live_takes_commands.1, by decide +kernel⟩

/-- A SEGMENT_SET at the edges of its ranges. -/
def segmentBody (k : Byte) (length : Half) : SegmentBody := ⟨k, 1, 0, length, 20, 6000, 20⟩

theorem witness_SegmentSetConfiguresTheSegment :
    ¬Busy live ∧ 31 < (segmentBody 32 50).segment.toNat ∧ (segmentBody 31 50).segment.toNat = (31 : SegmentId).val
      ∧ 15 < ({ segmentBody 31 50 with source := 16 } : SegmentBody).source.toNat
      ∧ (segmentBody 31 50).source.toNat = (1 : JunctionId).val ∧ (segmentBody 31 50).target.toNat = (0 : JunctionId).val
      ∧ ¬(50 ≤ (segmentBody 31 49).length.toNat) ∧ 50 ≤ (segmentBody 31 50).length.toNat
      ∧ (5 : SegmentId) ≠ 31 ∧ (∃ g ∈ segmentAt (withSegment live .stale 3) 5, g.source = 1 ∧ g.target = 0)
      ∧ ∀ m : SegmentId, segmentAt live m = none :=
  ⟨live_takes_commands.1, by decide +kernel⟩

/-- A POLICY_SET of the defaults with another debt limit. -/
def policyBody (limit : Half) : PolicyBody := ⟨1200, 30, 60, 150, 20, 1, 20, limit, 60, 2, 1800, 15, 50, 10, 3000, 6000⟩

theorem witness_PolicySetReplacesEveryItem :
    ¬Busy live ∧ PolicyBounded (policyOf (policyBody 600)) ∧ ¬PolicyBounded (policyOf (policyBody 601))
      ∧ (policyBody 600).partials.toNat ≤ 1 ∧ 1 < ({ policyBody 600 with partials := 2 } : PolicyBody).partials.toNat
      ∧ PolicyBounded live.policy ∧ (List.replicate 23 (0 : Byte)).length = 23
      ∧ (policyBodyOf (List.replicate 23 1)).partials.toNat ≤ 1 := by
  unfold PolicyBounded
  refine ⟨live_takes_commands.1, ?_, ?_, ?_⟩ <;> decide +kernel

theorem witness_SuspendAndResumeSetTheFlag : ¬Busy live ∧ 15 < (16 : Byte).toNat ∧ junctionOf 15 = some 15 :=
  ⟨live_takes_commands.1, by decide⟩

theorem witness_RecordCommandsFindTheirRecord :
    ¬Busy candidate ∧ (RecordsBounded candidate ∧ KeysDiffer candidate)
      ∧ recordAt candidate 3 = some (aRecord 412 .candidate (some (.extend 60 false))) ∧ HoldsKey candidate 3 412 0
      ∧ (3 : Byte).toNat = (3 : SlotId).val ∧ (slotAt candidate 3).generation = 0 ∧ (1 : Byte) ≠ 0
      ∧ 95 < (96 : Byte).toNat ∧ recordAt candidate 95 = none ∧ ∀ i : SlotId, ¬HoldsKey candidate i 413 15 := by
  refine ⟨idle_takes_commands _ rfl, candidate_records, ?_⟩
  unfold HoldsKey; decide +kernel

/-- A listing of junction 0 under way. -/
def listing (count : Byte) : State := { candidate with cursor := some { junction := 0, changeCount := count, position := 1 } }

theorem witness_ListingReadsTheCandidateOrder :
    ¬Busy candidate ∧ candidate.cursor = none ∧ (junctionAt (listing 0) 0).changeCount = 0
      ∧ (junctionAt (listing 1) 0).changeCount ≠ 1 ∧ 15 < (16 : Byte).toNat ∧ junctionOf 15 = some 15 :=
  ⟨idle_takes_commands _ rfl, by decide +kernel⟩

theorem witness_NoticeCommandsActOnTheirMask :
    categories[11]? = some .soft ∧ ¬Busy live ∧ (0x0FFF : Half).toNat < 4096 ∧ 4096 ≤ (0x1000 : Half).toNat ∧ 2 < (3 : Byte).toNat
      ∧ (0 : Byte) ≠ 1 ∧ (0 : Byte) ≠ 2 :=
  ⟨rfl, live_takes_commands.1, by decide⟩

theorem witness_CorridorClearEmptiesTheTable :
    ¬Busy ready ∧ TableConsistent ready ∧ DirectivesSound ready
      ∧ (∀ j : JunctionId, ∀ g ∈ (junctionAt ready j).grant, g.step < (activeSteps (junctionAt ready j)).length)
      ∧ (∃ g ∈ (junctionAt ready 0).grant, g.accepted = true) ∧ ready.transmitter = none
      ∧ (after .corridorClear ready).directives.map Directive.kind = [.release] :=
  ⟨idle_takes_commands _ rfl, ready_table, ready_directives, by decide +kernel⟩

end Sys2Proof.Tests
end

/-! Power-on and the CYCLE_START report: what a block holds after POWER_ON, what a frame finds once its link is
renewed, R10's match of a plan id, the cycle that ends and the one that opens (R13), and going DARK (R19). -/

namespace Sys2Proof.Proofs

open Sys2Proof.Machine Sys2Proof.Safety Sys2Proof.Laws

/-! ### Power-on (R1, R5, R37, R138, R159, R166) -/

/-- The state POWER_ON leaves: the reset state, with the model's own queue and count of free values kept (log 19). -/
def poweredOn (s : State) : State := { State.reset with pending := s.pending, freeCount := s.freeCount }

theorem exec_powerOn (s : State) : exec .powerOn s = .next (poweredOn s) := rfl

theorem junctionAt_poweredOn (s : State) (j : JunctionId) : junctionAt (poweredOn s) j = Junction.reset := by
  simp [junctionAt, poweredOn, State.reset]

theorem slotAt_poweredOn (s : State) (i : SlotId) : slotAt (poweredOn s) i = { generation := 0, record := none } := by
  simp [slotAt, poweredOn, State.reset]

theorem segmentAt_poweredOn (s : State) (k : SegmentId) : segmentAt (poweredOn s) k = none := by
  simp [segmentAt, poweredOn, State.reset]

theorem notices_poweredOn (s : State) (k : Fin 12) :
    (poweredOn s).notices[k] = { raised := false, count := 0, enabled := false } := by
  simp [poweredOn, State.reset]

/-- Settles O3: POWER_ON's state is the reset state but for the model's own fields, and every block is read off it. -/
theorem powerOnSetsEveryBlock : Obligations.PowerOnSetsEveryBlock := by
  intro s
  refine ⟨poweredOn s, exec_powerOn s, fun j => ?_, rfl, slotAt_poweredOn s, rfl, rfl, segmentAt_poweredOn s, rfl, rfl, rfl,
    rfl, rfl, rfl, rfl, rfl, rfl, notices_poweredOn s, rfl, rfl⟩
  rw [junctionAt_poweredOn]
  simp [Junction.reset, positionAt, limitOf, modeOf]

/-! ### A frame of the junction link (R7) -/

/-- Two changes of a junction context that agree on the context it has are one change. -/
theorem onJunction_congr {j : JunctionId} {f g : Junction → Junction} {s : State}
    (h : f (junctionAt s j) = g (junctionAt s j)) : onJunction j f s = onJunction j g s := by
  simp only [onJunction, h]

theorem junctionAt_heard (j : JunctionId) (s : State) :
    junctionAt (heard j s) j =
      { junctionAt s j with
        liveness := some (timeAdd s.time s.policy.linkTimeout)
        sync :=
          if (junctionAt s j).liveness = none ∧ (junctionAt s j).sync = .dark .linkLost then
            .dark (if (junctionAt s j).activePlan.isSome then .localMode else .noPlan)
          else (junctionAt s j).sync } := junctionAt_onJunction_same ..

/-- A link renewed makes no junction LIVE and none DARK. -/
@[simp] theorem isLive_heard (j : JunctionId) (s : State) :
    isLive (junctionAt (heard j s) j) = isLive (junctionAt s j) := by
  rw [junctionAt_heard]
  unfold isLive
  by_cases h : (junctionAt s j).liveness = none ∧ (junctionAt s j).sync = .dark .linkLost
  · simp [h]
  · simp only [if_neg h]

@[simp] theorem heard_policy (j : JunctionId) (s : State) : (heard j s).policy = s.policy := rfl

@[simp] theorem heard_activePlan (j : JunctionId) (s : State) :
    (junctionAt (heard j s) j).activePlan = (junctionAt s j).activePlan := by rw [junctionAt_heard]

@[simp] theorem heard_stagedPlan (j : JunctionId) (s : State) :
    (junctionAt (heard j s) j).stagedPlan = (junctionAt s j).stagedPlan := by rw [junctionAt_heard]

@[simp] theorem heard_localMode (j : JunctionId) (s : State) :
    (junctionAt (heard j s) j).localMode = (junctionAt s j).localMode := by rw [junctionAt_heard]

@[simp] theorem heard_lastCycleStart (j : JunctionId) (s : State) :
    (junctionAt (heard j s) j).lastCycleStart = (junctionAt s j).lastCycleStart := by rw [junctionAt_heard]

@[simp] theorem heard_cycleCount (j : JunctionId) (s : State) :
    (junctionAt (heard j s) j).cycleCount = (junctionAt s j).cycleCount := by rw [junctionAt_heard]

@[simp] theorem heard_adjustment (j : JunctionId) (s : State) :
    (junctionAt (heard j s) j).adjustment = (junctionAt s j).adjustment := by rw [junctionAt_heard]

@[simp] theorem heard_grant (j : JunctionId) (s : State) :
    (junctionAt (heard j s) j).grant = (junctionAt s j).grant := by rw [junctionAt_heard]

@[simp] theorem heard_outstanding (j : JunctionId) (s : State) :
    (junctionAt (heard j s) j).outstanding = (junctionAt s j).outstanding := by rw [junctionAt_heard]

@[simp] theorem heard_tagCounter (j : JunctionId) (s : State) :
    (junctionAt (heard j s) j).tagCounter = (junctionAt s j).tagCounter := by rw [junctionAt_heard]

@[simp] theorem heard_debt (j : JunctionId) (s : State) :
    (junctionAt (heard j s) j).debt = (junctionAt s j).debt := by rw [junctionAt_heard]

@[simp] theorem heard_lockout (j : JunctionId) (s : State) :
    (junctionAt (heard j s) j).lockout = (junctionAt s j).lockout := by rw [junctionAt_heard]

/-- A CYCLE_START that names a junction renews its link and is then matched by its plan id. -/
theorem exec_cycleStart {b : Byte} {j : JunctionId} (count id : Byte) (s : State) (h : junctionOf b = some j) :
    exec (.cycleStart b count id) s = .next (cycleStart s.time j count id (heard j s)) :=
  congrArg Host.Outcome.next (deliverJunction_eq (.cycleStart b count id) j s h)

/-! ### The match of a plan id (R10) -/

/-- An id the staged slot does not hold is matched against the active slot alone. -/
theorem cycleStart_of_not_staged (now : Time) {j : JunctionId} (count : Byte) {id : Byte} {s : State}
    (h : (junctionAt s j).stagedPlan.map Plan.planId ≠ some id) :
    cycleStart now j count id s =
      if (junctionAt s j).activePlan.map Plan.planId = some id then
        if isLive (junctionAt s j) then nextCycle now j count s else tryEnterLive now j count s
      else mismatch now j s := by
  cases hp : (junctionAt s j).stagedPlan with
  | none => simp [cycleStart, planIdOf, hp]
  | some p =>
    have hne : p.planId ≠ id := by simpa [hp] using h
    simp [cycleStart, planIdOf, hp, hne]

/-! ### The records of a junction enqueued (R12, R13) -/

/-- The records of a junction join the queue, seen from a state with the same queue and request table. -/
theorem enqueueWhere_ofJunction {s t : State} (j : JunctionId) (hq : t.evalQueue = s.evalQueue) (hs : t.slots = s.slots) :
    enqueueWhere (ofJunction j) t = { t with evalQueue := queuedWhere s.evalQueue (holdsRecordOf s j) } := by
  rw [enqueueWhere_eq, hq]
  simp only [recordAt_congr hs]
  rfl

/-! ### Entering LIVE (R12) -/

theorem cycleOf_eq {c : Junction} {p : Plan} (hp : c.activePlan = some p) : cycleOf c = p.cycle := by simp [cycleOf, hp]

/-- Entering LIVE at a cycle start of the active plan: R12's values, the records enqueued, and the issue check. -/
theorem enterLive_eq (now : Time) (j : JunctionId) (count : Byte) {p : Plan} {s : State} (hnow : s.time = now)
    (hp : (junctionAt s j).activePlan = some p) : enterLive now j count s = issueCheck now j (entered j count p s) := by
  subst hnow
  unfold enterLive entered
  rw [enqueueWhere_ofJunction (s := s) (t := onJunction j _ s) j rfl rfl]
  simp only [onJunction, liveContext, cycleLimit, cycleOf_eq hp]

/-! ### Going DARK (R6, R19, R122) -/

/-- The position of a LIVE junction is measured from its last cycle start, where it has one (R6). -/
theorem positionAt_of_live (now : Time) {c : Junction} (h : isLive c = true) :
    positionAt now c = (c.lastCycleStart.map fun t0 => (timeDiff now t0).toNat).getD c.frozenPosition := by
  unfold isLive at h
  unfold positionAt
  cases hs : c.sync with
  | dark r => simp [hs] at h
  | live d => cases c.lastCycleStart <;> rfl

@[simp] theorem junctionAt_goDark (now : Time) (j : JunctionId) (reason : DarkReason) (s : State) :
    junctionAt (goDark now j reason s) j = darkened now reason (junctionAt s j) := by
  simp [goDark]

/-- The model's going DARK has R19's and R122's effects, at a LIVE junction. -/
theorem wentDark_goDark (now : Time) (j : JunctionId) (reason : DarkReason) (s : State)
    (h : isLive (junctionAt s j) = true) : WentDark now j reason s (goDark now j reason s) := by
  refine ⟨?_, rfl, rfl, fun i => ⟨?_, ?_⟩, fun k hk => ?_, goDark_evalQueue .., goDark_transmitter .., outside_goDark ..⟩
  · simp [darkened, emptyOrder, positionAt_of_live now h]
  · simp [goDark, slotAt_onRecordsWhere]
  · simp [goDark, recordAt_onRecordsWhere, ofJunction]
  · simp [goDark, junctionAt_onJunction_ne (Ne.symm hk)]

/-- Settles O15: the id is matched against the active slot (R10), and R12 or the mismatch is read off the model. -/
theorem cycleStartEntersLiveOrMismatches : Obligations.CycleStartEntersLiveOrMismatches := by
  intro b count id j s hb hst
  have hexec := exec_cycleStart count id s hb
  rw [cycleStart_of_not_staged s.time count (by simpa using hst)] at hexec
  simp only [heard_activePlan, isLive_heard] at hexec
  refine ⟨fun p hp hid hdark => ?_, fun hnone => ?_, fun p hp hid hdark => ?_, fun p hp hid hlive => ?_⟩
  · have hp' : (junctionAt (heard j s) j).activePlan = some p := by simpa using hp
    simp [hexec, hp, hid, hdark, tryEnterLive, enterLive_eq s.time j count (s := heard j s) rfl hp', setReason]
  · simp [hexec, hnone, mismatch]
  · simp [hexec, hp, hid, hdark, mismatch, setReason]
  · refine ⟨goDark s.time j .planMismatch (heard j s), ?_, wentDark_goDark _ _ _ _ (by simpa using hlive), ?_, ?_⟩
    · simp [hexec, hp, hid, hlive, mismatch]
    · rw [junctionAt_goDark]; rfl
    · rw [junctionAt_goDark]; exact heard_localMode j s

/-! ### The next cycle (R13, R14, R126 to R130) -/

theorem canDirect_iff (s : State) (j : JunctionId) : canDirect s j = true ↔ MayDirect s j := by
  have hrel : ∀ k : DirectiveKind, isRelease k = true ↔ k = .release := by intro k; cases k <;> simp [isRelease]
  simp [canDirect, MayDirect, sendingDirective, hrel, and_assoc]

/-- Whether a directive may be given rests on the grant, the outstanding directive and the directive queue alone. -/
theorem mayDirect_congr {s t : State} {j : JunctionId} (hd : t.directives = s.directives)
    (hg : (junctionAt t j).grant = (junctionAt s j).grant)
    (ho : (junctionAt t j).outstanding = (junctionAt s j).outstanding) : MayDirect t j ↔ MayDirect s j := by
  simp only [MayDirect, hd, hg, ho]

/-- The state after steps 1 to 4 of R13: the context of the next cycle, DEBT_LIMIT and SYNC_SLIP. -/
def cycleOpened (now : Time) (j : JunctionId) (count : Byte) (s : State) : State :=
  raiseIf (slips s.policy now count (junctionAt s j)) .syncSlip
    (raiseIf (beyondDebtLimit s.policy now (junctionAt s j)) .debtLimit
      (onJunction j (nextCycleContext s.policy now count) s))

@[simp] theorem junctionAt_cycleOpened (now : Time) (j : JunctionId) (count : Byte) (s : State) :
    junctionAt (cycleOpened now j count s) j = nextCycleContext s.policy now count (junctionAt s j) := by
  simp [cycleOpened]

theorem cycleOpened_directives (now : Time) (j : JunctionId) (count : Byte) (s : State) :
    (cycleOpened now j count s).directives = s.directives := by simp [cycleOpened]

theorem cycleOpened_evalQueue (now : Time) (j : JunctionId) (count : Byte) (s : State) :
    (cycleOpened now j count s).evalQueue = s.evalQueue := by simp [cycleOpened]

theorem cycleOpened_slots (now : Time) (j : JunctionId) (count : Byte) (s : State) :
    (cycleOpened now j count s).slots = s.slots := by simp [cycleOpened]

theorem cycleOpened_policy (now : Time) (j : JunctionId) (count : Byte) (s : State) :
    (cycleOpened now j count s).policy = s.policy := by simp [cycleOpened]

/-- A cycle start of the active plan: steps 1 to 4 of R13, the TRIM, the junction's records enqueued, and the issue check
where the lockout was counted down. -/
theorem nextCycle_eq (now : Time) (j : JunctionId) (count : Byte) (s : State) :
    nextCycle now j count s =
      (let v : State :=
        { queueTrim now j (cycleOpened now j count s) with evalQueue := queuedWhere s.evalQueue (holdsRecordOf s j) }
       if 0 < (junctionAt s j).lockout then issueCheck now j v else v) := by
  rw [← enqueueWhere_ofJunction (s := s) j (by simp [cycleOpened_evalQueue]) (by simp [cycleOpened_slots])]
  rfl

/-- No TRIM is queued where the debt is 0 or something is in the way (R130). -/
theorem queueTrim_of_not (now : Time) {j : JunctionId} {s : State}
    (h : (junctionAt s j).debt = 0 ∨ ¬MayDirect s j) : queueTrim now j s = s :=
  if_neg fun ⟨hdebt, hcan⟩ => h.elim hdebt (· ((canDirect_iff s j).mp hcan))

/-- A TRIM takes the next tag and becomes the outstanding directive (R130). -/
theorem queueTrim_of_mayDirect (now : Time) {j : JunctionId} {s : State} (hdebt : (junctionAt s j).debt ≠ 0)
    (hmay : MayDirect s j) :
    queueTrim now j s =
      (let amount := trimAmount s.policy (junctionAt s j).debt
       queueDirective now j (.trim amount) ((junctionAt s j).tagCounter + 1)
         (onJunction j (fun c =>
           { c with
             tagCounter := c.tagCounter + 1
             outstanding := some { kind := .trim amount, tag := c.tagCounter + 1 }
             acceptDeadline := none }) s)) :=
  if_pos ⟨hdebt, (canDirect_iff s j).mpr hmay⟩

/-- A notice raised under a Boolean test, as an if over a proposition. -/
theorem raiseIf_eq_ite {b : Bool} {q : Prop} [Decidable q] (h : b = true ↔ q) (n : Category) (s : State) :
    raiseIf b n s = if q then raise n s else s := by
  unfold raiseIf
  simp only [h]

section

variable {now t0 : Time} {c : Junction} {p : Plan}

/-- R126's sum: the old debt and what the cycle ran longer than the active plan's cycle length. -/
theorem debtSum_eq (hp : c.activePlan = some p) (ht : c.lastCycleStart = some t0) :
    debtSum now c = c.debt + (timeDiff now t0 - p.cycle) := by
  simp [debtSum, measuredLength, cycleOf_eq hp, ht]

/-- DEBT_LIMIT is due where the debt was saturated or is beyond the limit (R127). -/
theorem beyondDebtLimit_iff (policy : Policy) (hp : c.activePlan = some p) (ht : c.lastCycleStart = some t0) :
    beyondDebtLimit policy now c = true ↔
      clamp (-999) 999 (c.debt + (timeDiff now t0 - p.cycle)) ≠ c.debt + (timeDiff now t0 - p.cycle)
        ∨ policy.debtLimit < (clamp (-999) 999 (c.debt + (timeDiff now t0 - p.cycle))).natAbs := by
  simp [beyondDebtLimit, debtSum_eq hp ht]

/-- SYNC_SLIP is due where the timing check or the count check fails (R14). -/
theorem slips_iff (policy : Policy) (count : Byte) (hp : c.activePlan = some p) (ht : c.lastCycleStart = some t0) :
    slips policy now count c = true ↔
      policy.syncTolerance < (timeDiff now t0 - p.cycle - c.adjustment).natAbs ∨ count ≠ c.cycleCount + 1 := by
  simp [slips, measuredLength, cycleOf_eq hp, ht]

end

/-- Settles O14: R13's steps in the model's order, with the debt (R126), the notices (R127, R14) and the TRIM (R130) in the
statement's terms. -/
theorem cycleStartEndsOneCycleAndOpensTheNext : Obligations.CycleStartEndsOneCycleAndOpensTheNext := by
  intro b count j s p t0 hb hp hst hlive ht0 c long debt u0 u1 u2 last amount
  have hp' : (junctionAt (heard j s) j).activePlan = some p := by simpa using hp
  have ht0' : (junctionAt (heard j s) j).lastCycleStart = some t0 := by simpa using ht0
  have hcontext : onJunction j (nextCycleContext s.policy s.time count) (heard j s) = u0 := by
    simp only [onJunction, nextCycleContext, cycleLimit, cycleOf_eq hp', debtSum_eq hp' ht0', heard_debt]
    rfl
  have hopened : cycleOpened s.time j count (heard j s) = u2 := by
    unfold cycleOpened
    rw [raiseIf_eq_ite (slips_iff _ count hp' ht0'), raiseIf_eq_ite (beyondDebtLimit_iff _ hp' ht0')]
    simp only [heard_debt, heard_adjustment, heard_cycleCount, heard_policy, hcontext]
    rfl
  have hexec : exec (.cycleStart b count p.planId) s = .next (last (queueTrim s.time j u2)) := by
    rw [exec_cycleStart count p.planId s hb, cycleStart_of_not_staged s.time count (by simpa using hst)]
    simp only [heard_activePlan, hp, isLive_heard, hlive, Option.map_some, if_true, nextCycle_eq, hopened, heard_lockout]
    rfl
  have hctx : junctionAt u2 j = nextCycleContext s.policy s.time count (junctionAt (heard j s) j) := by
    rw [← hopened]; exact junctionAt_cycleOpened ..
  have hmay : MayDirect u2 j ↔ MayDirect s j := by
    rw [← hopened]
    exact mayDirect_congr (cycleOpened_directives ..) (by simp [nextCycleContext]) (by simp [nextCycleContext])
  have hdebt : (junctionAt u2 j).debt = debt := by
    rw [hctx]; simp [nextCycleContext, debtSum_eq hp' ht0', clamp, debt, long, c]
  have htag : (junctionAt u2 j).tagCounter = c.tagCounter := by rw [hctx]; exact heard_tagCounter j s
  have hpolicy : u2.policy = s.policy := by rw [← hopened]; exact cycleOpened_policy ..
  refine ⟨fun h => ?_, fun h0 hm => ?_⟩
  · rw [hexec, queueTrim_of_not s.time (by rwa [hdebt, hmay])]
  · rw [hexec, queueTrim_of_mayDirect s.time (by rwa [hdebt]) (hmay.mpr hm)]
    simp only [hdebt, htag, hpolicy]
    rfl

end Sys2Proof.Proofs

/-! The liveness deadline of a junction (R7): every operation but a link renewed, a link lost and power-on leaves it
at every junction, and every command that is a valid frame of the junction link hands its message over. -/

namespace Sys2Proof.Proofs

open Sys2Proof.Machine Sys2Proof.Safety Sys2Proof.Laws

/-! ### Updates (Ops, Orders) -/

/-- A change of a junction context that leaves its liveness deadline leaves every junction's. -/
@[simp] theorem liveness_onJunction {f : Junction → Junction} (hf : ∀ c, (f c).liveness = c.liveness) (j : JunctionId)
    (s : State) (k : JunctionId) : (junctionAt (onJunction j f s) k).liveness = (junctionAt s k).liveness := by
  rw [junctionAt_onJunction]; split <;> simp [hf]

@[simp] theorem liveness_adjustBy (d : Int) (c : Junction) : (adjustBy d c).liveness = c.liveness := by simp [adjustBy]

@[simp] theorem liveness_darkened (now : Time) (reason : DarkReason) (c : Junction) :
    (darkened now reason c).liveness = c.liveness := by simp [darkened, emptyOrder]

@[simp] theorem liveness_liveContext (p : Policy) (now : Time) (count : Byte) (c : Junction) :
    (liveContext p now count c).liveness = c.liveness := by simp [liveContext]

@[simp] theorem liveness_nextCycleContext (p : Policy) (now : Time) (count : Byte) (c : Junction) :
    (nextCycleContext p now count c).liveness = c.liveness := by simp [nextCycleContext]

/-- A fold of changes that each leave the liveness deadlines leaves them. -/
theorem liveness_foldl {α : Type} {f : State → α → State} {k : JunctionId}
    (hf : ∀ t a, (junctionAt (f t a) k).liveness = (junctionAt t k).liveness) (l : List α) (s : State) :
    (junctionAt (l.foldl f s) k).liveness = (junctionAt s k).liveness := by
  induction l generalizing s with
  | nil => rfl
  | cons a l ih => rw [List.foldl_cons, ih, hf]

section

variable (now : Time) (j : JunctionId) (i : SlotId) (tag : Byte) (s : State) (k : JunctionId)

@[simp] theorem junctionAt_enqueueWhere (p : Record → Bool) : junctionAt (enqueueWhere p s) k = junctionAt s k :=
  junctionAt_congr (enqueueWhere_junctions p s) k

@[simp] theorem junctionAt_enqueueSlots (p : SlotId → Record → Bool) : junctionAt (enqueueSlots p s) k = junctionAt s k :=
  junctionAt_congr (enqueueSlots_junctions p s) k

@[simp] theorem junctionAt_queueDirective (d : DirectiveKind) :
    junctionAt (queueDirective now j d tag s) k = junctionAt s k := junctionAt_congr (queueDirective_junctions ..) k

@[simp] theorem junctionAt_walkOrder (l : List SlotId) : junctionAt (walkOrder now j l s).1 k = junctionAt s k :=
  junctionAt_congr (walkOrder_junctions ..) k

@[simp] theorem liveness_queueRelease :
    (junctionAt (queueRelease now j tag s) k).liveness = (junctionAt s k).liveness := by
  unfold queueRelease
  split
  · rfl
  · simp

@[simp] theorem liveness_withdraw (p : DirectiveKind → Bool) :
    (junctionAt (withdraw j p s) k).liveness = (junctionAt s k).liveness := by
  unfold withdraw; split <;> simp

@[simp] theorem liveness_onOrder (f : List SlotId → List SlotId) :
    (junctionAt (onOrder j f s) k).liveness = (junctionAt s k).liveness := by simp [onOrder]

@[simp] theorem liveness_insertCandidate :
    (junctionAt (insertCandidate j i s) k).liveness = (junctionAt s k).liveness := liveness_onOrder ..

@[simp] theorem liveness_removeCandidate :
    (junctionAt (removeCandidate j i s) k).liveness = (junctionAt s k).liveness := liveness_onOrder ..

@[simp] theorem liveness_moveCandidate :
    (junctionAt (moveCandidate j i s) k).liveness = (junctionAt s k).liveness := liveness_onOrder ..

@[simp] theorem liveness_makeOffer (o : OfferTerms) :
    (junctionAt (makeOffer now j i o s) k).liveness = (junctionAt s k).liveness := by simp [makeOffer]

@[simp] theorem liveness_issueCheck : (junctionAt (issueCheck now j s) k).liveness = (junctionAt s k).liveness := by
  unfold issueCheck; dsimp only; repeat' split
  all_goals simp

/-! ### Grants and answers -/

@[simp] theorem liveness_clearGrant : (junctionAt (clearGrant j s) k).liveness = (junctionAt s k).liveness := by
  simp [clearGrant]

@[simp] theorem liveness_clearOutstanding :
    (junctionAt (clearOutstanding j s) k).liveness = (junctionAt s k).liveness := by simp [clearOutstanding]

@[simp] theorem liveness_releaseGrant (g : Grant) :
    (junctionAt (releaseGrant now j g s) k).liveness = (junctionAt s k).liveness := by
  unfold releaseGrant; split <;> simp

@[simp] theorem liveness_endAccepted (g : Grant) (release : Bool) (served : Option Half) {leave : State → State}
    (h : ∀ t, (junctionAt (leave t) k).liveness = (junctionAt t k).liveness) :
    (junctionAt (endAccepted now j g release served leave s) k).liveness = (junctionAt s k).liveness := by
  unfold endAccepted; dsimp only
  cases served <;> cases release <;> simp [h]

@[simp] theorem liveness_endOffered : (junctionAt (endOffered j s) k).liveness = (junctionAt s k).liveness := by
  simp [endOffered]

@[simp] theorem liveness_returnHolder :
    (junctionAt (returnHolder j i s) k).liveness = (junctionAt s k).liveness := by
  unfold returnHolder; repeat' split
  all_goals simp

@[simp] theorem liveness_handBack (g : Grant) (c : Category) :
    (junctionAt (handBack j g c s) k).liveness = (junctionAt s k).liveness := by simp [handBack]

@[simp] theorem liveness_holderRetired (v : Half) (o : RetireOutcome) :
    (junctionAt (holderRetired now j v o s) k).liveness = (junctionAt s k).liveness := by
  unfold holderRetired; repeat' split
  all_goals simp

@[simp] theorem liveness_retire (o : RetireOutcome) :
    (junctionAt (retire now i o s) k).liveness = (junctionAt s k).liveness := by
  unfold retire; repeat' split
  all_goals simp

@[simp] theorem liveness_retireKey (v : Half) (b : Byte) (o : RetireOutcome) :
    (junctionAt (retireKey now v b o s) k).liveness = (junctionAt s k).liveness := by
  unfold retireKey; split <;> simp

@[simp] theorem liveness_acceptGrant (g : Grant) :
    (junctionAt (acceptGrant now j g s) k).liveness = (junctionAt s k).liveness := by simp [acceptGrant]

@[simp] theorem liveness_acceptAnswer :
    (junctionAt (acceptAnswer now j tag s) k).liveness = (junctionAt s k).liveness := by
  unfold acceptAnswer; repeat' split
  all_goals simp

@[simp] theorem liveness_declineAnswer :
    (junctionAt (declineAnswer now j tag s) k).liveness = (junctionAt s k).liveness := by
  unfold declineAnswer; split <;> simp

@[simp] theorem liveness_answerTimeout :
    (junctionAt (answerTimeout now j s) k).liveness = (junctionAt s k).liveness := by
  unfold answerTimeout; repeat' split
  all_goals simp

@[simp] theorem liveness_clearAccepted :
    (junctionAt (clearAccepted now j s) k).liveness = (junctionAt s k).liveness := by
  unfold clearAccepted; split <;> simp

@[simp] theorem liveness_clearOffered :
    (junctionAt (clearOffered j s) k).liveness = (junctionAt s k).liveness := by
  unfold clearOffered; split <;> simp

@[simp] theorem liveness_corridorClear :
    (junctionAt (corridorClear now s) k).liveness = (junctionAt s k).liveness := by
  unfold corridorClear
  simp only [junctionAt, Fin.getElem_fin, Vector.getElem_map, emptyOrder]
  exact (liveness_foldl (fun t j => liveness_clearOffered j t k) _ _).trans
    (liveness_foldl (fun t j => liveness_clearAccepted now j t k) _ s)

/-! ### Evaluations -/

@[simp] theorem junctionAt_startEvaluation : junctionAt (startEvaluation now s) k = junctionAt s k := by
  unfold startEvaluation; repeat' split
  all_goals rfl

@[simp] theorem liveness_followOrder (before : Record) (after : RecordState) (score : Nat) :
    (junctionAt (followOrder i before after score s) k).liveness = (junctionAt s k).liveness := by
  unfold followOrder; repeat' split
  all_goals simp

@[simp] theorem liveness_settleState (r : Record) (f : Reads) (e : EvalResult) :
    (junctionAt (settleState i r f e s) k).liveness = (junctionAt s k).liveness := by
  unfold settleState; dsimp only; split <;> simp

@[simp] theorem liveness_storeResult (r : Record) (f : Reads) (e : EvalResult) :
    (junctionAt (storeResult now i r f e s) k).liveness = (junctionAt s k).liveness := by
  unfold storeResult; dsimp only; repeat' split
  all_goals simp

@[simp] theorem liveness_completeEvaluation :
    (junctionAt (completeEvaluation now s) k).liveness = (junctionAt s k).liveness := by
  have hidle : junctionAt { s with flight := none } k = junctionAt s k := rfl
  unfold completeEvaluation; repeat' split
  all_goals simp [hidle]

/-! ### Junction clocks -/

@[simp] theorem liveness_goDark (reason : DarkReason) :
    (junctionAt (goDark now j reason s) k).liveness = (junctionAt s k).liveness := by
  simp [goDark]

@[simp] theorem liveness_setReason (reason : DarkReason) :
    (junctionAt (setReason j reason s) k).liveness = (junctionAt s k).liveness := by simp [setReason]

@[simp] theorem liveness_reportMode (m : LocalMode) :
    (junctionAt (reportMode now j m s) k).liveness = (junctionAt s k).liveness := by
  unfold reportMode; dsimp only; repeat' split
  all_goals simp

@[simp] theorem liveness_tryEnterLive (count : Byte) :
    (junctionAt (tryEnterLive now j count s) k).liveness = (junctionAt s k).liveness := by
  unfold tryEnterLive; split <;> simp [enterLive]

@[simp] theorem junctionAt_markFlight : junctionAt (markFlight j s) k = junctionAt s k :=
  junctionAt_congr (markFlight_junctions j s) k

@[simp] theorem junctionAt_markCandidates : junctionAt (markCandidates j s) k = junctionAt s k :=
  junctionAt_congr (markCandidates_junctions j s) k

@[simp] theorem liveness_endForAdoption :
    (junctionAt (endForAdoption j s) k).liveness = (junctionAt s k).liveness := by
  unfold endForAdoption; split <;> simp

@[simp] theorem liveness_adoptPlan (count : Byte) (p : Plan) :
    (junctionAt (adoptPlan now j count p s) k).liveness = (junctionAt s k).liveness := by
  unfold adoptPlan; dsimp only; split <;> simp

@[simp] theorem liveness_queueTrim : (junctionAt (queueTrim now j s) k).liveness = (junctionAt s k).liveness := by
  unfold queueTrim; dsimp only; split <;> simp

@[simp] theorem liveness_nextCycle (count : Byte) :
    (junctionAt (nextCycle now j count s) k).liveness = (junctionAt s k).liveness := by
  unfold nextCycle; dsimp only; split <;> simp

@[simp] theorem liveness_mismatch : (junctionAt (mismatch now j s) k).liveness = (junctionAt s k).liveness := by
  unfold mismatch; repeat' split
  all_goals simp

@[simp] theorem liveness_cycleStart (count id : Byte) :
    (junctionAt (cycleStart now j count id s) k).liveness = (junctionAt s k).liveness := by
  unfold cycleStart; dsimp only; repeat' split
  all_goals simp

@[simp] theorem liveness_setStep (n : Nat) :
    (junctionAt (setStep now j n s) k).liveness = (junctionAt s k).liveness := by simp [setStep]

@[simp] theorem junctionAt_coverHolder : junctionAt (coverHolder i s) k = junctionAt s k :=
  junctionAt_congr (coverHolder_junctions i s) k

@[simp] theorem liveness_progress (ends : GrantKind) (phase : Byte) :
    (junctionAt (progress now j ends phase s) k).liveness = (junctionAt s k).liveness := by
  unfold progress; split <;> simp

@[simp] theorem liveness_phaseStart (phase : Byte) :
    (junctionAt (phaseStart now j phase s) k).liveness = (junctionAt s k).liveness := by
  unfold phaseStart; dsimp only; repeat' split
  all_goals simp

@[simp] theorem liveness_phaseEnd (phase : Byte) :
    (junctionAt (phaseEnd now j phase s) k).liveness = (junctionAt s k).liveness := by
  unfold phaseEnd; dsimp only; repeat' split
  all_goals simp

/-- The loss of one junction's link leaves the liveness deadline of every other. -/
theorem liveness_loseLink_of_ne {j k : JunctionId} (h : j ≠ k) :
    (junctionAt (loseLink now j s) k).liveness = (junctionAt s k).liveness := by
  unfold loseLink; dsimp only; split <;> simp [junctionAt_onJunction_ne h]

/-! ### Requests -/

@[simp] theorem liveness_checkIn (m : CheckInMsg) : (junctionAt (checkIn m s) k).liveness = (junctionAt s k).liveness := by
  unfold checkIn createRecord refreshRecord; dsimp only; repeat' split
  all_goals simp

@[simp] theorem junctionAt_update (m : UpdateMsg) : junctionAt (update m s) k = junctionAt s k := by
  unfold update; repeat' split
  all_goals simp

@[simp] theorem liveness_forceRecord (r : Record) :
    (junctionAt (forceRecord now i r s) k).liveness = (junctionAt s k).liveness := by
  unfold forceRecord; dsimp only; split <;> simp

/-! ### Segments and passages -/

@[simp] theorem junctionAt_enqueueTied (n : SegmentId) : junctionAt (enqueueTied n s) k = junctionAt s k := by
  simp [enqueueTied]

@[simp] theorem junctionAt_takeSample (n : SegmentId) (x : Int) (g : Segment) :
    junctionAt (takeSample now n x g s) k = junctionAt s k := by
  unfold takeSample; dsimp only; split <;> simp

@[simp] theorem junctionAt_takeOverrun (n : SegmentId) (g : Segment) :
    junctionAt (takeOverrun n g s) k = junctionAt s k := by
  unfold takeOverrun; repeat' split
  all_goals simp

@[simp] theorem junctionAt_handSample (a b : JunctionId) (x : Int) :
    junctionAt (handSample now a b x s) k = junctionAt s k := by
  unfold handSample; repeat' split
  all_goals simp

@[simp] theorem junctionAt_passageAt (v : Half) : junctionAt (passageAt now v j s) k = junctionAt s k := by
  have hpassages : ∀ (t : State) (l : List PassageEntry), junctionAt { t with passages := l } k = junctionAt t k :=
    fun _ _ => rfl
  unfold passageAt; dsimp only; repeat' split
  all_goals simp [hpassages]

@[simp] theorem junctionAt_goStale (n : SegmentId) (g : Segment) : junctionAt (goStale n g s) k = junctionAt s k := by
  simp [goStale]

/-! ### The links -/

@[simp] theorem setAssembler_junctions (link : Link) (a : Assembler) : (setAssembler link a s).junctions = s.junctions := by
  cases link <;> rfl

@[simp] theorem discardFrame_junctions (link : Link) : (discardFrame link s).junctions = s.junctions := by
  simp [discardFrame]

@[simp] theorem junctionAt_setAssembler (link : Link) (a : Assembler) :
    junctionAt (setAssembler link a s) k = junctionAt s k := junctionAt_congr (setAssembler_junctions ..) k

@[simp] theorem junctionAt_discardFrame (link : Link) : junctionAt (discardFrame link s) k = junctionAt s k :=
  junctionAt_congr (discardFrame_junctions ..) k

@[simp] theorem liveness_deliverDetection (m : DetectionMsg) :
    (junctionAt (deliverDetection m s) k).liveness = (junctionAt s k).liveness := by
  cases m <;> simp [deliverDetection]

/-- The content of a junction link frame leaves every liveness deadline: the frame's own renewal comes before it (R7). -/
@[simp] theorem liveness_deliverContent (m : JunctionMsg) :
    (junctionAt (deliverContent j m s) k).liveness = (junctionAt s k).liveness := by
  cases m with
  | status b mode => simp only [deliverContent, deliverStatus]; split <;> simp
  | passage b q v => simp [deliverContent, deliverPassage]
  | cycleStart | phaseStart | phaseEnd | accept | decline => simp [deliverContent]

/-- A frame that names another junction, or none, leaves a junction's liveness deadline. -/
theorem liveness_deliverJunction_of_ne {m : JunctionMsg} {k : JunctionId} (h : junctionOf (msgJunction m) ≠ some k) :
    (junctionAt (deliverJunction m s) k).liveness = (junctionAt s k).liveness := by
  unfold deliverJunction
  split
  · simp
  · next j hj =>
    have hne : j ≠ k := fun e => h (e ▸ hj)
    simp [renewLiveness, junctionAt_onJunction_ne hne]

@[simp] theorem liveness_reportSent :
    (junctionAt (reportSent now j tag s) k).liveness = (junctionAt s k).liveness := by
  unfold reportSent
  exact liveness_onJunction (fun c => by split <;> rfl) j s k

@[simp] theorem liveness_sentEvent : (junctionAt (sentEvent now s) k).liveness = (junctionAt s k).liveness := by
  have hsent : ∀ l : List Directive,
      junctionAt { s with directives := l, transmitter := none } k = junctionAt s k := fun _ => rfl
  unfold sentEvent; dsimp only; repeat' split
  all_goals simp [hsent]

/-! ### The supervisor port -/

@[simp] theorem liveness_resetCycleLimit :
    (junctionAt (resetCycleLimit now j s) k).liveness = (junctionAt s k).liveness := by
  unfold resetCycleLimit; dsimp only; repeat' split
  all_goals simp

theorem liveness_policySet (b : PolicyBody) :
    (junctionAt (policySet b s).1 k).liveness = (junctionAt s k).liveness := by
  unfold policySet
  split
  · rw [liveness_foldl fun t j => liveness_resetCycleLimit s.time j t k]; rfl
  · rfl

theorem junctionAt_noticeWrite (target action : Byte) (mask : Half) :
    junctionAt (noticeWrite target action mask s).1 k = junctionAt s k := by
  unfold noticeWrite; repeat' split
  all_goals rfl

/-- A supervisor command's effect leaves every liveness deadline. -/
theorem liveness_act (c : Command) : (junctionAt (act c s).1 k).liveness = (junctionAt s k).liveness := by
  cases c with
  | planRead | segmentRead | policyRead | junctionQuery | noticeRead => rfl
  | planStage b | segmentSet b =>
    simp only [act, planStage, segmentSet]; repeat' split
    all_goals simp
  | policySet b => exact liveness_policySet s k b
  | junctionSuspend b | junctionResume b =>
    simp only [act, junctionSuspend, junctionResume]; split <;> simp
  | recordLookup n =>
    simp only [act, recordLookup]; repeat' split
    all_goals rfl
  | recordRetire n | recordForce n =>
    simp only [act, recordRetire, recordForce]; repeat' split
    all_goals simp
  | listStart b => simp only [act, listStart]; split <;> rfl
  | listContinue =>
    simp only [act, listContinue]; repeat' split
    all_goals rfl
  | noticeWrite a b m => exact congrArg Junction.liveness (junctionAt_noticeWrite s k a b m)
  | corridorClear => exact liveness_corridorClear s.time s k

theorem liveness_takeCommand (n : Nat) (c : Command) :
    (junctionAt (takeCommand n c s) k).liveness = (junctionAt s k).liveness := by
  unfold takeCommand
  split
  · rfl
  · exact liveness_act s k c

theorem junctionAt_readResponse (n : Nat) : junctionAt (readResponse n s) k = junctionAt s k := by
  unfold readResponse; dsimp only; split <;> rfl

theorem liveness_transaction (first : Byte) (rest : List Byte) :
    (junctionAt (transaction first rest s) k).liveness = (junctionAt s k).liveness := by
  unfold transaction
  split
  · split
    · exact liveness_takeCommand ..
    · rfl
  · split
    · rw [junctionAt_readResponse]
    · rfl

theorem junctionAt_makeReady : junctionAt (makeReady s) k = junctionAt s k := by
  unfold makeReady; split <;> rfl

end

/-! ### Commands that are frames of the junction link (R150, R154) -/

/-- A byte of the junction link either completes a frame, whose message is delivered with the assembler in HUNT, or
hands nothing over and leaves every junction (R150, R151). -/
theorem receiveByte_junction_cases (b : Byte) (uartError : Bool) (s : State) :
    (∃ m, deliveredMsg s (.linkByteReceived .junction b uartError) = some m
      ∧ receiveByte .junction b uartError s = deliverJunction m (setAssembler .junction .hunt s))
    ∨ (deliveredMsg s (.linkByteReceived .junction b uartError) = none
      ∧ (receiveByte .junction b uartError s).junctions = s.junctions) := by
  cases hrx : s.junctionRx with
  | hunt =>
    refine .inr ⟨by cases uartError <;> simp [deliveredMsg, hrx], ?_⟩
    simp only [receiveByte, assemblerOf, hrx]; split <;> rfl
  | receiving phase taken gap =>
    cases uartError with
    | true => exact .inr ⟨rfl, by simp [receiveByte, assemblerOf, hrx]⟩
    | false =>
      cases phase with
      | length | body =>
        exact .inr ⟨by simp [deliveredMsg, hrx], by simp [receiveByte, assemblerOf, hrx, takeByte]⟩
      | kind =>
        refine .inr ⟨by simp [deliveredMsg, hrx], ?_⟩
        simp only [receiveByte, assemblerOf, hrx, takeByte, Bool.false_eq_true, if_false]
        split <;> simp
      | check =>
        by_cases hlen : taken.length = takenLength taken + 2
        · exact .inr ⟨by simp [deliveredMsg, hrx, hlen],
            by simp [receiveByte, assemblerOf, hrx, takeByte, hlen]⟩
        by_cases hcrc : [byteAt taken (takenLength taken + 2), b] = le16 (crc16 (taken.take (takenLength taken + 2)))
        · cases hm : junctionMsg (byteAt taken 1) ((taken.take (takenLength taken + 2)).drop 2) with
          | none =>
            exact .inr ⟨by simp [deliveredMsg, hrx, hm],
              by simp [receiveByte, assemblerOf, hrx, takeByte, hlen, completeFrame, hcrc, deliverFrame, hm]⟩
          | some m =>
            exact .inl ⟨m, by simp [deliveredMsg, hrx, hlen, hcrc, hm],
              by simp [receiveByte, assemblerOf, hrx, takeByte, hlen, completeFrame, hcrc, deliverFrame, hm]⟩
        · exact .inr ⟨by simp [deliveredMsg, hrx, hcrc],
            by simp [receiveByte, assemblerOf, hrx, takeByte, hlen, completeFrame, hcrc]⟩

/-- A byte of the detection link leaves every liveness deadline. -/
theorem liveness_receiveByte_detection (b : Byte) (uartError : Bool) (s : State) (k : JunctionId) :
    (junctionAt (receiveByte .detection b uartError s) k).liveness = (junctionAt s k).liveness := by
  have hcomplete : ∀ taken, (junctionAt (completeFrame .detection taken b s) k).liveness = (junctionAt s k).liveness := by
    intro taken
    unfold completeFrame deliverFrame; dsimp only; repeat' split
    all_goals simp
  unfold receiveByte takeByte; repeat' split
  all_goals simp [hcomplete]

/-- A command with a message to hand over delivers it, with the junction link's assembler back in HUNT. -/
theorem exec_of_deliveredMsg {c : Instr} {m : JunctionMsg} {s : State} (h : deliveredMsg s c = some m) :
    exec c s = .next (deliverJunction m (setAssembler .junction .hunt s)) := by
  cases c with
  | status | cycleStart | phaseStart | phaseEnd | passage | accept | decline | foreignJunctionFrame =>
    obtain rfl := Option.some.inj h; rfl
  | linkByteReceived link b uartError =>
    cases link with
    | detection => cases h
    | junction =>
      obtain ⟨m', hm', hbyte⟩ | ⟨hnone, -⟩ := receiveByte_junction_cases b uartError s
      · obtain rfl := Option.some.inj (h.symm.trans hm')
        exact congrArg Host.Outcome.next hbyte
      · rw [hnone] at h; cases h
  | _ => cases h

/-- A command that delivers no junction link message leaves a junction's liveness deadline, unless it is POWER_ON or that
deadline's own expiry (R5, R8). -/
theorem exec_keeps_liveness_of_undelivered {c : Instr} {j : JunctionId} {s : State} (hpower : c ≠ .powerOn)
    (hexpiry : c ≠ .livenessExpiry j) (h : deliveredMsg s c = none) :
    ∃ u, exec c s = .next u ∧ (junctionAt u j).liveness = (junctionAt s j).liveness := by
  cases c with
  | powerOn => exact absurd rfl hpower
  | status | cycleStart | phaseStart | phaseEnd | passage | accept | decline | foreignJunctionFrame => cases h
  | checkIn | update | checkOut | cancel => exact ⟨_, rfl, by simp⟩
  | badFrame link => exact ⟨_, rfl, by simp⟩
  | linkByteReceived link b uartError =>
    refine ⟨_, rfl, ?_⟩
    cases link with
    | detection => exact liveness_receiveByte_detection ..
    | junction =>
      obtain ⟨m, hm, -⟩ | ⟨-, hjunctions⟩ := receiveByte_junction_cases b uartError s
      · rw [hm] at h; cases h
      · rw [junctionAt_congr hjunctions]
  | livenessExpiry k =>
    have hne : k ≠ j := fun e => hexpiry (e ▸ rfl)
    simp only [exec, execLivenessExpiry]
    split
    · exact ⟨_, rfl, liveness_loseLink_of_ne _ s hne⟩
    · exact ⟨_, rfl, rfl⟩
  | passageEntryExpiry v =>
    simp only [exec, execPassageEntryExpiry]
    split <;> exact ⟨_, rfl, rfl⟩
  | gapDeadlineExpiry | cycleLimitExpiry | recordExpiry | acceptDeadlineExpiry | staleDeadlineExpiry =>
    simp only [exec, execGapDeadlineExpiry, execCycleLimitExpiry, execRecordExpiry, execAcceptDeadlineExpiry,
      execStaleDeadlineExpiry]
    repeat' split
    all_goals exact ⟨_, rfl, by simp⟩
  | evaluationStart | evaluationCompletion | sentEvent => exact ⟨_, rfl, by simp⟩
  | corridorTimeTick => exact ⟨_, rfl, rfl⟩
  | commandFrameDiscarded first rest => exact ⟨_, rfl, liveness_transaction ..⟩
  | readTransaction n => exact ⟨_, rfl, congrArg _ (junctionAt_readResponse ..)⟩
  | responseReady => exact ⟨_, rfl, congrArg _ (junctionAt_makeReady ..)⟩
  | _ => exact ⟨_, rfl, liveness_takeCommand ..⟩

/-- Settles O11: a delivered frame renews the deadline, which its content then leaves; and a command that delivers none to
the junction leaves the deadline too. -/
theorem everyFrameRenewsItsLink : Obligations.EveryFrameRenewsItsLink := by
  refine ⟨fun c m j s hm hj => ?_, fun c j s t ht hpower hexpiry hother => ?_⟩
  · have hexec : exec c s = .next (deliverContent j m (heard j s)) :=
      (exec_of_deliveredMsg hm).trans (congrArg _ (deliverJunction_eq m j s hj))
    refine ⟨hexec, _, hexec, ?_⟩
    rw [liveness_deliverContent, junctionAt_heard]
  · cases hm : deliveredMsg s c with
    | some m =>
      obtain rfl := Host.Outcome.next.inj ((exec_of_deliveredMsg hm).symm.trans ht)
      rw [liveness_deliverJunction_of_ne _ (hother m hm), junctionAt_setAssembler]
    | none =>
      obtain ⟨u, hu, hkept⟩ := exec_keeps_liveness_of_undelivered hpower hexpiry hm
      obtain rfl := Host.Outcome.next.inj (hu.symm.trans ht)
      exact hkept

end Sys2Proof.Proofs

/-! The staging of a plan (R21, R22, R23): the model's checks 2 to 7 of a PLAN_STAGE body are the rule's, and the plan of a
body that passes them is sound and holds the body's fields. -/

namespace Sys2Proof.Proofs

open Sys2Proof.Machine Sys2Proof.Safety Sys2Proof.Laws

/-! ### The step entries in use (R162) -/

theorem length_usedSteps {b : PlanBody} (h : b.count.toNat ≤ 8) : (usedSteps b).length = b.count.toNat := by
  simp [usedSteps, h]

theorem getElem?_usedSteps (b : PlanBody) (k : Fin 8) :
    (usedSteps b)[k.val]? = if k.val < b.count.toNat then some b.steps[k] else none := by
  simp [usedSteps, List.getElem?_take]

/-- A used step entry is one of the eight, at an index below n. -/
theorem mem_usedSteps_iff {b : PlanBody} {st : StepBody} :
    st ∈ usedSteps b ↔ ∃ k : Fin 8, k.val < b.count.toNat ∧ b.steps[k] = st := by
  rw [List.mem_iff_getElem?]
  constructor
  · rintro ⟨i, hi⟩
    have hlt : i < 8 := by
      have := (List.getElem?_eq_some_iff.mp hi).1
      simp only [usedSteps, List.length_take, Vector.length_toList] at this
      omega
    rw [getElem?_usedSteps b ⟨i, hlt⟩] at hi
    exact ⟨⟨i, hlt⟩, (Option.ite_none_right_eq_some.mp hi).imp_right Option.some.inj⟩
  · rintro ⟨k, hk, rfl⟩
    exact ⟨k, by rw [getElem?_usedSteps, if_pos hk]⟩

theorem forall_mem_usedSteps {b : PlanBody} {p : StepBody → Prop} :
    (∀ st ∈ usedSteps b, p st) ↔ ∀ k : Fin 8, k.val < b.count.toNat → p b.steps[k] := by
  simp only [mem_usedSteps_iff]
  exact ⟨fun h k hk => h _ ⟨k, hk, rfl⟩, fun h st ⟨k, hk, e⟩ => e ▸ h k hk⟩

/-- Check 4 of R22: no phase number stands twice in the used entries. -/
theorem phases_nodup_iff (b : PlanBody) (hcount : b.count.toNat ≤ 8) :
    ((planOf b).steps.map PlanStep.phase).Nodup ↔
      ∀ k : Fin 8, k.val < b.count.toNat → ∀ m : Fin 8, m.val < b.count.toNat →
        b.steps[k].phase = b.steps[m].phase → k = m := by
  have hphase : ∀ k : Fin 8, k.val < b.count.toNat →
      ((planOf b).steps.map PlanStep.phase)[k.val]? = some b.steps[k].phase.toNat := fun k hk => by
    simp [planOf, getElem?_usedSteps, hk, stepOf]
  have hlength : ((planOf b).steps.map PlanStep.phase).length = b.count.toNat := by
    simp [planOf, length_usedSteps hcount]
  rw [List.nodup_iff_getElem?_ne_getElem?]
  constructor
  · intro h k hk m hm heq
    have hsame := (hphase k hk).trans ((congrArg (fun x : Byte => some x.toNat) heq).trans (hphase m hm).symm)
    obtain hlt | hkm | hlt := lt_trichotomy k m
    · exact absurd hsame (h k m hlt (hlength ▸ hm))
    · exact hkm
    · exact absurd hsame.symm (h m k hlt (hlength ▸ hk))
  · intro h i m hlt hm heq
    rw [hlength] at hm
    have him : (⟨i, by omega⟩ : Fin 8) = ⟨m, by omega⟩ := by
      refine h _ (by simp; omega) _ hm (BitVec.eq_of_toNat_eq (Option.some.inj ?_))
      rw [← hphase ⟨i, by omega⟩ (by simp; omega), ← hphase ⟨m, by omega⟩ hm]
      exact heq
    exact hlt.ne (Fin.mk.inj him)

/-! ### The checks of one entry (R22) -/

/-- Check 3 of R22. -/
theorem stepInRange_iff (st : StepBody) :
    stepInRange st = true ↔
      (1 ≤ st.phase.toNat ∧ st.phase.toNat ≤ 8) ∧ (50 ≤ st.split.toNat ∧ st.split.toNat ≤ 1200)
        ∧ (30 ≤ st.minGreen.toNat ∧ st.minGreen.toNat ≤ st.split.toNat) ∧ (st.guarded = 0#8 ∨ st.guarded = 1#8)
        ∧ st.maxExtension.toNat ≤ 400 ∧ st.maxAdvance.toNat ≤ 400 := by
  have hflag : st.guarded.toNat ≤ 1 ↔ st.guarded = 0#8 ∨ st.guarded = 1#8 := by bv_omega
  simp only [stepInRange, Bool.and_eq_true, decide_eq_true_eq, hflag, and_assoc]

/-- Check 5 of R22, of the step an entry stages. -/
theorem maximumsOfGuarded_iff (st : StepBody) :
    (!(stepOf st).guarded || (decide ((stepOf st).maxExtension = 0) && decide ((stepOf st).maxAdvance = 0))) = true ↔
      (st.guarded = 1#8 → st.maxExtension = 0#16 ∧ st.maxAdvance = 0#16) := by
  simp [stepOf, BitVec.toNat_eq, imp_iff_not_or]

/-- Check 7 of R22. -/
theorem approachInRange_iff (n : Nat) (a : ApproachBody) :
    approachInRange n a = true ↔
      (a.priority = 0xFF#8 ∨ a.priority.toNat < n) ∧ (a.feeding = 0xFF#8 ∨ a.feeding.toNat ≤ 31) := by
  simp [approachInRange, Nat.lt_succ_iff]

/-! ### The checks of a body and the plan they pass (R21, R22) -/

/-- R22's checks 2 to 7 one by one, in the model's terms. -/
theorem planFields_iff_checks (b : PlanBody) :
    PlanFields b ↔ b.planId ≠ 0#8 ∧ (400 ≤ b.cycle.toNat ∧ b.cycle.toNat ≤ 2400)
      ∧ (2 ≤ b.count.toNat ∧ b.count.toNat ≤ 8) ∧ (∀ st ∈ usedSteps b, stepInRange st = true)
      ∧ ((planOf b).steps.map PlanStep.phase).Nodup
      ∧ (∀ st ∈ usedSteps b, st.guarded = 1#8 → st.maxExtension = 0#16 ∧ st.maxAdvance = 0#16)
      ∧ ((planOf b).steps.map PlanStep.split).sum = b.cycle.toNat
      ∧ ∀ q : Fin 4, approachInRange b.count.toNat b.approaches[q] = true := by
  have hsplits : (planOf b).steps.map PlanStep.split = (b.steps.toList.take b.count.toNat).map fun st => st.split.toNat := by
    simp only [planOf, List.map_map]; rfl
  by_cases hcount : b.count.toNat ≤ 8
  · simp only [PlanFields, forall_mem_usedSteps, stepInRange_iff, phases_nodup_iff b hcount, hsplits, approachInRange_iff]
    constructor
    · rintro ⟨hid, hcycle, hn, hsteps, hrest⟩
      refine ⟨hid, hcycle, hn, fun k hk => ?_, fun k hk => ?_, fun k hk => ?_, hrest⟩ <;>
        obtain ⟨hphase, hsplit, hmin, hflag, hx, ha, hguarded, hdistinct⟩ := hsteps k hk
      · exact ⟨hphase, hsplit, hmin, hflag, hx, ha⟩
      · exact hdistinct
      · exact hguarded
    · rintro ⟨hid, hcycle, hn, hrange, hdistinct, hguarded, hrest⟩
      refine ⟨hid, hcycle, hn, fun k hk => ?_, hrest⟩
      obtain ⟨hphase, hsplit, hmin, hflag, hx, ha⟩ := hrange k hk
      exact ⟨hphase, hsplit, hmin, hflag, hx, ha, hguarded k hk, hdistinct k hk⟩
  · simp [PlanFields, hcount]

theorem planInRange_iff (b : PlanBody) : planInRange b = true ↔ PlanFields b := by
  have hid : 1 ≤ b.planId.toNat ↔ b.planId ≠ 0#8 := by bv_omega
  have happroaches : (∀ a ∈ b.approaches.toList, approachInRange b.count.toNat a = true) ↔
      ∀ q : Fin 4, approachInRange b.count.toNat b.approaches[q] = true := by
    simp [Vector.forall_mem_iff_forall_getElem, Fin.forall_iff]
  have hguarded : (∀ st ∈ (planOf b).steps,
      (!st.guarded || (decide (st.maxExtension = 0) && decide (st.maxAdvance = 0))) = true) ↔
      ∀ st ∈ usedSteps b, st.guarded = 1#8 → st.maxExtension = 0#16 ∧ st.maxAdvance = 0#16 := by
    simp only [planOf, List.forall_mem_map, maximumsOfGuarded_iff]
  simp only [planFields_iff_checks, planInRange, Bool.and_eq_true, decide_eq_true_eq, List.all_eq_true, hid, hguarded,
    happroaches, and_assoc]

theorem stepBounded_stepOf {st : StepBody} (h : stepInRange st = true)
    (hguarded : st.guarded = 1#8 → st.maxExtension = 0#16 ∧ st.maxAdvance = 0#16) : StepBounded (stepOf st) := by
  obtain ⟨hphase, hsplit, hmin, -, hx, ha⟩ := (stepInRange_iff st).mp h
  exact ⟨hphase, hsplit, hmin, hx, ha, fun hg =>
    (hguarded (of_decide_eq_true hg)).imp (congrArg BitVec.toNat) (congrArg BitVec.toNat)⟩

/-- The plan of a body that passes checks 2 to 7 of R22 is sound. -/
theorem planSound_planOf {b : PlanBody} (h : PlanFields b) : PlanSound (planOf b) := by
  obtain ⟨hid, hcycle, hcount, hrange, hdistinct, hguarded, hsum, happroaches⟩ := (planFields_iff_checks b).mp h
  have hlength : (planOf b).steps.length = b.count.toNat := by simp [planOf, length_usedSteps hcount.2]
  refine ⟨hid, hcycle, hlength ▸ hcount, ?_, hdistinct, hsum, fun q k hk => ?_⟩
  · exact List.forall_mem_map.mpr fun st hst => stepBounded_stepOf (hrange st hst) (hguarded st hst)
  · obtain ⟨hpriority, -⟩ := (approachInRange_iff _ _).mp (happroaches q)
    simp only [planOf, approachEntryOf, Fin.getElem_fin, Vector.getElem_map, Option.mem_def,
      Option.ite_none_left_eq_some, Option.some.injEq] at hk
    obtain ⟨hpresent, rfl⟩ := hk
    exact hlength ▸ hpriority.resolve_left hpresent

/-- A step of the plan of a body is its step entry, field by field. -/
theorem steps_planOf {b : PlanBody} {k : Fin 8} {st : PlanStep} (h : (planOf b).steps[k.val]? = some st) :
    st = stepOf b.steps[k] := by
  simp only [planOf, List.getElem?_map, getElem?_usedSteps, Option.map_eq_some_iff, Option.ite_none_right_eq_some,
    Option.some.injEq] at h
  obtain ⟨_, ⟨-, rfl⟩, rfl⟩ := h
  rfl

theorem approaches_planOf (b : PlanBody) (q : Fin 4) : (planOf b).approaches[q] = approachEntryOf b.approaches[q] := by
  simp [planOf]

/-- A feeding segment number that passes check 7 of R22 is staged as it is sent, 0xFF as none. -/
theorem feeding_approachEntryOf {a : ApproachBody} (h : a.feeding = 0xFF#8 ∨ a.feeding.toNat ≤ 31) :
    (approachEntryOf a).feeding.map Fin.val = if a.feeding = 0xFF#8 then none else some a.feeding.toNat := by
  obtain habsent | hle := h
  · simp [approachEntryOf, habsent]
  · have hpresent : a.feeding ≠ 0xFF#8 := by bv_omega
    simp [approachEntryOf, Nat.lt_succ_of_le hle, hpresent]

/-! ### PLAN_STAGE (R22, R23) -/

/-- A PLAN_STAGE taken while the port is not EXECUTING is answered as its checks say. -/
theorem exec_planStage (b : PlanBody) {s : State} (h : ¬Busy s) :
    exec (.planStage b) s =
      .next (taken s (.planStage b) (planStage b s).2.1 (planStage b s).2.2 (planStage b s).1) :=
  congrArg _ (command_eq (.planStage b) s (isExecuting_of_not_busy s h))

theorem planStage_of_badJunction {b : PlanBody} (s : State) (h : 15 < b.junction.toNat) :
    planStage b s = (s, .badJunction, []) := by
  have hnone : junctionOf b.junction = none := dif_neg (by omega)
  simp [planStage, hnone]

/-- Checks 2 to 8 of R22 at a junction of the corridor, and R23's staging where they pass. -/
theorem planStage_of_junction {b : PlanBody} {j : JunctionId} (s : State) (h : junctionOf b.junction = some j)
    [Decidable (PlanFields b)] :
    planStage b s =
      if PlanFields b then
        if planIdOf (junctionAt s j).activePlan = some b.planId then (s, .notAllowed, [])
        else (onJunction j (fun c => { c with stagedPlan := some (planOf b) }) s, .ok, [])
      else (s, .badField, []) := by
  simp only [planStage, h, planInRange_iff]

/-- Settles O51: the checks are R22's in its order, and the plan of a body that passes them holds the body's fields. -/
theorem planStageFillsTheStagedSlot : Obligations.PlanStageFillsTheStagedSlot := by
  classical
  intro b s hfree
  rw [exec_planStage b hfree]
  refine ⟨fun hjunction => by rw [planStage_of_badJunction s hjunction], fun j hj => ?_⟩
  rw [planStage_of_junction s hj]
  refine ⟨fun hbad => by rw [if_neg hbad], fun hfields hsame => by rw [if_pos hfields, if_pos hsame],
    fun hfields hdiffers => ?_⟩
  rw [if_pos hfields, if_neg hdiffers]
  obtain ⟨-, -, hcount, -, -, -, -, happroaches⟩ := (planFields_iff_checks b).mp hfields
  refine ⟨planOf b, planSound_planOf hfields, rfl, rfl, rfl, ?_, fun k st hst => ?_, fun q => ?_⟩
  · simp [planOf, length_usedSteps hcount.2]
  · rw [steps_planOf hst]
    exact ⟨rfl, rfl, rfl, decide_eq_true_iff, rfl, rfl⟩
  · obtain ⟨-, hfeeding⟩ := (approachInRange_iff _ _).mp (happroaches q)
    rw [approaches_planOf]
    exact ⟨rfl, feeding_approachEntryOf hfeeding⟩

end Sys2Proof.Proofs

/-! The request table's messages (chapter 3): the slot a key names (R38), the checks of a CHECK_IN and the record it
creates (R44, R46), and the fields an UPDATE sets (R48, R49). -/

namespace Sys2Proof.Proofs

open Sys2Proof.Machine Sys2Proof.Safety Sys2Proof.Laws

/-! ### The slot of a key (R38) and the vacant slot (R37) -/

/-- A search of the slots in ascending order ends at the lowest one that passes. -/
theorem find?_finRange_eq_some {n : Nat} {p : Fin n → Bool} {i : Fin n} (hi : p i = true)
    (hbelow : ∀ k < i, p k = false) : (List.finRange n).find? p = some i := by
  rw [← Fin.find?_eq_find?_finRange, Fin.find?_eq_some_iff]
  exact ⟨hi, hbelow⟩

/-- The test of the search for a key is that the slot holds it. -/
theorem any_hasKey_iff (s : State) (i : SlotId) (v : Half) (b : Byte) :
    ((recordAt s i).any fun r => decide (r.vehicle = v) && decide (r.junction.val = b.toNat)) = true ↔
      HoldsKey s i v b := by
  simp [HoldsKey, Option.any_eq_true]

theorem findKey_of_not_held {s : State} {v : Half} {b : Byte} (h : ∀ i : SlotId, ¬HoldsKey s i v b) :
    findKey s v b = none := by
  unfold findKey
  split
  · exact List.find?_eq_none.mpr fun i _ => mt (any_hasKey_iff s i v b).mp (h i)
  · rfl

/-- No two slots hold one key (R38). -/
theorem holdsKey_unique {s : State} {i k : SlotId} {v : Half} {b : Byte} (hkeys : KeysDiffer s)
    (hi : HoldsKey s i v b) (hk : HoldsKey s k v b) : i = k := by
  obtain ⟨r, hr, hvehicle, hjunction⟩ := hi
  obtain ⟨q, hq, hvehicle', hjunction'⟩ := hk
  exact hkeys i k r hr q hq (hvehicle.trans hvehicle'.symm) (Fin.ext (hjunction.trans hjunction'.symm))

/-- A key a slot holds is that of a vehicle 1 to 65534 (R39). -/
theorem realVehicle_of_holdsKey {s : State} {i : SlotId} {v : Half} {b : Byte} (hbounded : RecordsBounded s)
    (h : HoldsKey s i v b) : realVehicle v = true := by
  obtain ⟨r, hr, rfl, -⟩ := h
  exact (hbounded i r hr).1

theorem findKey_of_holdsKey {s : State} {i : SlotId} {v : Half} {b : Byte} (hbounded : RecordsBounded s)
    (hkeys : KeysDiffer s) (h : HoldsKey s i v b) : findKey s v b = some i := by
  rw [findKey, if_pos (realVehicle_of_holdsKey hbounded h)]
  refine find?_finRange_eq_some ((any_hasKey_iff s i v b).mpr h) fun k hk => ?_
  rw [← Bool.not_eq_true, any_hasKey_iff]
  exact fun hk' => hk.ne (holdsKey_unique hkeys hk' h)

theorem vacantSlot_of_lowest {s : State} {i : SlotId} (hi : recordAt s i = none)
    (hbelow : ∀ k < i, (recordAt s k).isSome = true) : vacantSlot s = some i :=
  find?_finRange_eq_some (by simp [hi]) fun k hk => by simpa using hbelow k hk

theorem vacantSlot_of_full {s : State} (h : ∀ i : SlotId, (recordAt s i).isSome = true) : vacantSlot s = none :=
  List.find?_eq_none.mpr fun i _ => by simp [Option.isSome_iff_ne_none.mp (h i)]

/-! ### A record changed and enqueued -/

/-- The change of an occupied slot's record, with the record it had named. -/
theorem onRecord_of_some {s : State} {i : SlotId} {r : Record} (f : Record → Record) (h : recordAt s i = some r) :
    onRecord i f s = onSlot i (fun sl => { sl with record := some (f r) }) s := by
  have hrecord : (slotAt s i).record = some r := h
  simp [onRecord, onSlot, hrecord]

/-- A record put into a slot, and the slot then placed in the evaluation queue. -/
theorem enqueue_onSlot_record (i : SlotId) (r : Record) (s : State) :
    enqueue i (onSlot i (fun sl => { sl with record := some r }) s) =
      { onSlot i (fun sl => { sl with record := some r }) s with evalQueue := queued s.evalQueue i } := by
  rw [enqueue_eq i _ (by simp [recordAt]), onSlot_evalQueue]

/-! ### A message received (R150) -/

/-- The state in which a message of the detection link reaches the request table: the assembler is back in HUNT. -/
def received (s : State) : State := { s with detectionRx := .hunt }

/-! ### The checks of a CHECK_IN (R44) -/

theorem junctionOf_eq_some_iff {b : Byte} {j : JunctionId} : junctionOf b = some j ↔ b.toNat = j.val := by
  simp only [junctionOf, Option.dite_none_right_eq_some, Option.some.injEq, Fin.ext_iff]
  exact ⟨fun ⟨_, h⟩ => h, fun h => ⟨h ▸ j.isLt, h⟩⟩

/-- The model's checks, which name the junction and the approach they pass, are R44's five. -/
theorem checkCheckIn_eq_some_iff (s : State) (m : CheckInMsg) (j : JunctionId) (q : Fin 4) :
    checkCheckIn s m = some ⟨j, q⟩ ↔ Admits s m j q := by
  unfold checkCheckIn Admits
  rw [← junctionOf_eq_some_iff]
  cases hj : junctionOf m.junction with
  | none => simp
  | some k =>
    simp only [realVehicle, decide_eq_true_eq, Option.ite_none_right_eq_some, Option.dite_none_right_eq_some,
      Option.some.injEq, CheckedKey.mk.injEq]
    constructor
    · rintro ⟨hvehicle, hplan, hlt, hpriority, rfl, rfl⟩
      exact ⟨hvehicle, rfl, hplan, rfl, hpriority⟩
    · rintro ⟨hvehicle, rfl, hplan, hq, hpriority⟩
      have hlt : m.approach.toNat < 4 := hq ▸ q.isLt
      obtain rfl : ⟨m.approach.toNat, hlt⟩ = q := Fin.ext hq
      exact ⟨hvehicle, hplan, hlt, hpriority, rfl, rfl⟩

theorem exec_checkIn (m : CheckInMsg) (s : State) : exec (.checkIn m) s = .next (checkIn m (received s)) := rfl

theorem checkIn_of_refused {m : CheckInMsg} {s : State} (h : ∀ (j : JunctionId) (q : Fin 4), ¬Admits s m j q) :
    checkIn m s = raise .badRequest s := by
  have hcheck : checkCheckIn s m = none :=
    Option.eq_none_iff_forall_ne_some.mpr fun ⟨j, q⟩ hk => h j q ((checkCheckIn_eq_some_iff s m j q).mp hk)
  simp only [checkIn, hcheck]

/-- Settles O20: R44's checks read the table and the junctions, which the frame's receipt leaves. -/
theorem checkInIsRefused : Obligations.CheckInIsRefused := by
  intro m s hrefused
  exact congrArg _ (checkIn_of_refused (s := received s) hrefused)

/-! ### The record a CHECK_IN creates (R45, R46) -/

/-- A CHECK_IN of a new key that passes R44 goes on to the creation of its record. -/
theorem checkIn_of_new_key {m : CheckInMsg} {j : JunctionId} {q : Fin 4} {s : State} (hadmits : Admits s m j q)
    (hnew : ∀ i : SlotId, ¬HoldsKey s i m.vehicle m.junction) : checkIn m s = createRecord m ⟨j, q⟩ s := by
  simp only [checkIn, (checkCheckIn_eq_some_iff s m j q).mpr hadmits, findKey_of_not_held hnew]

/-- A new record has the message's report and R46's values. -/
theorem newRecord_eq_withReport (s : State) (m : CheckInMsg) (j : JunctionId) (q : Fin 4) :
    newRecord s m ⟨j, q⟩ = withReport m q
      { vehicle := m.vehicle, junction := j, approach := q, cls := .schedule, sequence := 0, distance := 0,
        speed := none, dwell := none, deviation := none, occupancy := none, forecast := none,
        decision := none, score := 0, checkInTime := s.time, lastMessage := s.time,
        expiry := timeAdd s.time s.policy.recordLifetime, status := .pending, changedInFlight := false,
        refreshWanted := false } := rfl

theorem createRecord_of_vacant {m : CheckInMsg} {k : CheckedKey} {s : State} {i : SlotId}
    (hvacant : recordAt s i = none) (hbelow : ∀ k < i, (recordAt s k).isSome = true) :
    createRecord m k s =
      { onSlot i (fun sl => { sl with record := some (newRecord s m k) }) s with
        evalQueue := queued s.evalQueue i } := by
  simp only [createRecord, vacantSlot_of_lowest hvacant hbelow, enqueue_onSlot_record]

theorem createRecord_of_full {m : CheckInMsg} {k : CheckedKey} {s : State}
    (h : ∀ i : SlotId, (recordAt s i).isSome = true) : createRecord m k s = raise .tableFull s := by
  simp only [createRecord, vacantSlot_of_full h]

/-- Settles O19: the key finds no slot, and the search for a vacant one finds the lowest or none. -/
theorem checkInCreatesARecord : Obligations.CheckInCreatesARecord := by
  intro m j q s hadmits hnew
  rw [exec_checkIn, checkIn_of_new_key (s := received s) hadmits hnew]
  refine ⟨fun i hvacant hbelow hqueue => ?_, fun hfull => ?_⟩
  · have hqueued : queued (received s).evalQueue i = s.evalQueue ++ [i] := if_neg hqueue
    rw [createRecord_of_vacant (s := received s) hvacant hbelow, newRecord_eq_withReport, hqueued]
    rfl
  · rw [createRecord_of_full (s := received s) hfull]
    rfl

/-! ### UPDATE (R48, R49) -/

theorem exec_update (m : UpdateMsg) (s : State) : exec (.update m) s = .next (update m (received s)) := rfl

theorem isNewer_iff (q stored : Byte) :
    isNewer q stored = true ↔ 1 ≤ (q - stored).toNat ∧ (q - stored).toNat ≤ 127 := decide_eq_true_iff

/-- The record an accepted UPDATE leaves: the fields the message carries, and R49's times and mark. -/
theorem updated_eq_withUpdate (m : UpdateMsg) (s : State) (flying : Bool) (r : Record) :
    updated s m flying r =
      withUpdate m { r with
        lastMessage := s.time
        expiry := timeAdd s.time s.policy.recordLifetime
        changedInFlight := r.changedInFlight || flying } := by
  obtain ⟨-, -, -, distance, speed, dwell, deviation, occupancy⟩ := m
  simp only [updated, withUpdate, Record.mk.injEq, true_and, and_true]
  refine ⟨?_, ?_, ?_, ?_, ?_⟩
  · cases distance <;> rfl
  · cases speed <;> rfl
  · cases dwell <;> rfl
  · cases deviation <;> rfl
  · cases occupancy <;> rfl

/-- An UPDATE of a key no slot holds (R48). -/
theorem update_of_not_held {m : UpdateMsg} {s : State} (h : ∀ i : SlotId, ¬HoldsKey s i m.vehicle m.junction) :
    update m s = raise .badRequest s := by
  simp only [update, findKey_of_not_held h]

/-- An UPDATE of a record, by its sequence (R48, R49). -/
theorem update_of_holdsKey {m : UpdateMsg} {s : State} {i : SlotId} {r : Record} (hbounded : RecordsBounded s)
    (hkeys : KeysDiffer s) (hkey : HoldsKey s i m.vehicle m.junction) (hr : recordAt s i = some r) :
    update m s =
      if isNewer m.sequence r.sequence then
        { onSlot i (fun sl => { sl with record := some (updated s m (inFlight s i) r) }) s with
          evalQueue := queued s.evalQueue i }
      else s := by
  simp only [update, findKey_of_holdsKey hbounded hkeys hkey, hr, onRecord_of_some _ hr, enqueue_onSlot_record]

/-- Settles O22: the key finds its one slot (R38), and the sequence decides between the record as it is and R49's. -/
theorem updateIsMatchedAndAccepted : Obligations.UpdateIsMatchedAndAccepted := by
  intro m s hbounded hkeys
  refine ⟨fun hnone => ?_, fun i hkey r hr => ?_⟩
  · exact congrArg _ (update_of_not_held (s := received s) hnone)
  · rw [exec_update, update_of_holdsKey (s := received s) hbounded hkeys hkey hr]
    refine ⟨fun hold => ?_, fun hnewer => ?_⟩
    · rw [if_neg (mt (isNewer_iff _ _).mp hold)]
      rfl
    · rw [if_pos ((isNewer_iff _ _).mpr hnewer), updated_eq_withUpdate]
      rfl

end Sys2Proof.Proofs

/-! The forecast and the decision of an evaluation (chapters 4 and 5): the travel time the model works out is R60's
relation, and the decision case is R67's with R73's amounts. -/

namespace Sys2Proof.Proofs

open Sys2Proof.Machine Sys2Proof.Safety

/-! ### The travel time (R59, R60) -/

/-- The model's rounded-up quotient is the one ceiling of x / y. -/
theorem eq_ceilDiv_iff {t x y : Nat} (hy : 0 < y) : ceilDiv x y = t ↔ IsCeiling t x y := by
  rw [ceilDiv, Nat.div_eq_iff hy, IsCeiling]
  omega

theorem segmentTime_eq_some_iff {r : Reads} {tau : Nat} {src : Source} (hlength : ∀ g ∈ r.segment, 0 < g.length) :
    segmentTime r = some (tau, src) ↔
      src = .segment ∧ ∃ g ∈ r.segment, g.usable = true ∧ IsCeiling tau (g.estimate * r.distance) g.length := by
  unfold segmentTime
  cases hg : r.segment with
  | none => simp
  | some g =>
    have hceil := eq_ceilDiv_iff (t := tau) (x := g.estimate * r.distance) (hlength g hg)
    simp [hceil, eq_comm (a := Source.segment), and_comm, and_left_comm]

theorem travelTime_of_atBar {r : Reads} (h : r.distance = 0) : travelTime r = some (0, .speed) := if_pos h

/-- A known speed of at least 20 gives the travel time (R59). -/
theorem travelTime_of_speed {r : Reads} {v : Nat} (hdistance : r.distance ≠ 0) (hspeed : r.speed = some v)
    (h20 : 20 ≤ v) : travelTime r = some (ceilDiv (100 * r.distance) v, .speed) := by
  simp [travelTime, hdistance, hspeed, h20]

/-- Without a speed of at least 20 the feeding segment gives the travel time (R60). -/
theorem travelTime_of_slow {r : Reads} (hdistance : r.distance ≠ 0) (hslow : ∀ v ∈ r.speed, v < 20) :
    travelTime r = segmentTime r := by
  unfold travelTime
  rw [if_neg hdistance]
  cases hspeed : r.speed with
  | none => rfl
  | some v => exact if_neg (Nat.not_le.mpr (hslow v hspeed))

/-- The model finds a travel time and a source exactly where R59 and R60 give them. -/
theorem travelTime_eq_some_iff {r : Reads} {tau : Nat} {src : Source} (hlength : ∀ g ∈ r.segment, 0 < g.length) :
    travelTime r = some (tau, src) ↔ TravelTime r tau src := by
  unfold TravelTime
  by_cases hdistance : r.distance = 0
  · simp [travelTime_of_atBar hdistance, hdistance, eq_comm (a := 0), eq_comm (a := Source.speed)]
  have hpos : 0 < r.distance := Nat.pos_of_ne_zero hdistance
  by_cases hslow : ∀ v ∈ r.speed, v < 20
  · have hnot : ¬∃ v ∈ r.speed, 20 ≤ v ∧ IsCeiling tau (100 * r.distance) v :=
      fun ⟨v, hv, h20, _⟩ => Nat.not_lt.mpr h20 (hslow v hv)
    simp only [travelTime_of_slow hdistance hslow, segmentTime_eq_some_iff hlength, hdistance, hpos, hnot,
      and_iff_right hslow, false_and, and_false, true_and, false_or]
  · obtain ⟨v, hspeed, h20⟩ : ∃ v, r.speed = some v ∧ 20 ≤ v := by simpa using hslow
    have hceil := eq_ceilDiv_iff (t := tau) (x := 100 * r.distance) (show 0 < v by omega)
    simp [travelTime_of_speed hdistance hspeed h20, hdistance, hpos, hspeed, h20, Nat.not_lt.mpr h20, hceil,
      eq_comm (a := Source.speed), and_comm]

theorem travelTime_eq_none {r : Reads} (hlength : ∀ g ∈ r.segment, 0 < g.length)
    (h : ∀ tau src, ¬TravelTime r tau src) : travelTime r = none :=
  Option.eq_none_iff_forall_ne_some.mpr fun ⟨tau, src⟩ e => h tau src ((travelTime_eq_some_iff hlength).mp e)

/-! ### The forecast (R61, R62, R64, R65) -/

theorem forecastOf_of_no_travelTime {r : Reads} (te : Time) (h : travelTime r = none) :
    forecastOf r te = .indefinite te := by simp only [forecastOf, h]

/-- The forecast of a record whose travel time was found: R62's rows in their order. -/
theorem forecastOf_of_travelTime {r : Reads} (te : Time) {tau : Nat} {src : Source}
    (h : travelTime r = some (tau, src)) :
    forecastOf r te =
      let rho := remainingTime r te tau
      if r.horizon < rho then .beyond te rho src
      else if r.distance = 0 ∨ rho = 0 then
        .atBar te rho (rho - rho / 8) (rho + rho / 8 + r.guardTime) src
      else .value te rho (rho - rho / 8) (rho + rho / 8 + r.guardTime) src := by simp only [forecastOf, h]

/-- Settles O29: the travel time found is R60's, and the kind is the first of R62's rows that matches. -/
theorem forecastFollowsTheTravelTime : Obligations.ForecastFollowsTheTravelTime := by
  intro r te hlength
  refine ⟨fun hnone => forecastOf_of_no_travelTime te (travelTime_eq_none hlength hnone), fun tau src hfound => ?_⟩
  intro rho a b
  have hforecast : forecastOf r te =
      if r.horizon < rho then .beyond te rho src
      else if r.distance = 0 ∨ rho = 0 then .atBar te rho a b src
      else .value te rho a b src := forecastOf_of_travelTime te ((travelTime_eq_some_iff hlength).mpr hfound)
  refine ⟨fun hbeyond => ?_, fun hwithin hbar => ?_, fun hwithin haway hlater => ?_, ?_, ?_, ?_⟩
  · rw [hforecast, if_pos hbeyond]
  · rw [hforecast, if_neg (Nat.not_lt.mpr hwithin), if_pos hbar]
  · rw [hforecast, if_neg (Nat.not_lt.mpr hwithin), if_neg (not_or.mpr ⟨haway, hlater⟩)]
  all_goals omega

/-! ### The amount of a need (R73) -/

/-- R73 for either kind sought: `give` turns the amount found into a decision of the kind `mk`, or NO_SLACK. -/
theorem sought_grantAmount (r : Reads) {mk : Nat → Bool → DecisionKind} {give : Option (Nat × Bool) → DecisionKind}
    (hsome : ∀ n part, give (some (n, part)) = mk n part) (hnone : give none = .noSlack) (need slack : Nat) :
    Sought r mk need slack (give (grantAmount r need slack)) := by
  unfold grantAmount
  refine ⟨fun hfits hmin => ?_, fun hfits hsmall hmin => ?_, fun hfits hsmall hshort => ?_, fun hover hpart hmin => ?_,
    fun hover hnot => ?_⟩
  · rw [if_pos hfits, if_pos hmin, hsome]
  · rw [if_pos hfits, if_neg (Nat.not_le.mpr hsmall), if_pos hmin, hsome]
  · rw [if_pos hfits, if_neg (Nat.not_le.mpr hsmall), if_neg (Nat.not_le.mpr hshort), hnone]
  · rw [if_neg (Nat.not_le.mpr hover), if_pos ⟨hpart, hmin⟩, hsome]
  · have hrefused : ¬(r.partials = true ∧ r.minGrant ≤ slack) := by
      rcases hnot with hpart | hshort
      · simp [hpart]
      · exact fun h => Nat.not_lt.mpr h.2 hshort
    rw [if_neg (Nat.not_le.mpr hover), if_neg hrefused, hnone]

theorem sought_extendBy (r : Reads) (need slack : Nat) :
    Sought r .extend need slack (extendBy (grantAmount r need slack)) :=
  sought_grantAmount r (fun _ _ => rfl) rfl need slack

theorem sought_advanceBy (r : Reads) (need slack : Nat) :
    Sought r .advance need slack (advanceBy (grantAmount r need slack)) :=
  sought_grantAmount r (fun _ _ => rfl) rfl need slack

/-! ### The decision case (R67 to R72) -/

section

variable {r : Reads} {w : WalkResult} {a b : Nat}

/-- Case (v): FAR (R72). -/
theorem decisionCase_of_far (h : w.nextGreen ≤ a) : decisionCase r w a b = .far := if_pos h

/-- Case (i): the window lies within the target green (R68). -/
theorem decisionCase_of_within (hnear : a < w.nextGreen) (hstart : w.greenStart ≤ a) (hend : b ≤ w.greenEnd) :
    decisionCase r w a b = .none := by
  rw [decisionCase, if_neg (Nat.not_le.mpr hnear), if_pos ⟨hstart, hend⟩]

/-- Case (ii): the window starts before the target green (R69). -/
theorem decisionCase_of_before (hnear : a < w.nextGreen) (hstart : a < w.greenStart) :
    decisionCase r w a b = advanceBy (grantAmount r (w.greenStart - a) w.targetSlack) := by
  rw [decisionCase, if_neg (Nat.not_le.mpr hnear), if_neg fun h => Nat.not_lt.mpr h.1 hstart, if_pos hstart]

/-- Case (iii): the window starts in the target green and ends after it (R70). -/
theorem decisionCase_of_overrun (hnear : a < w.nextGreen) (hstart : w.greenStart ≤ a) (hin : a < w.greenEnd)
    (hend : w.greenEnd < b) :
    decisionCase r w a b = extendBy (grantAmount r (b - w.greenEnd) w.extensionSlack) := by
  rw [decisionCase, if_neg (Nat.not_le.mpr hnear), if_neg fun h => Nat.not_lt.mpr h.2 hend,
    if_neg (Nat.not_lt.mpr hstart), if_pos hin]

/-- Case (iv): the window misses the target green, and the extension branch comes before the advance branch (R71). -/
theorem decisionCase_of_missed (hnear : a < w.nextGreen) (hstart : w.greenStart ≤ a) (hmissed : w.greenEnd ≤ a)
    (hend : w.greenEnd < b) :
    decisionCase r w a b =
      if max (b - w.greenEnd) r.minGrant ≤ w.extensionSlack then .extend (max (b - w.greenEnd) r.minGrant) false
      else advanceBy (grantAmount r (w.nextGreen - a) w.followingSlack) := by
  rw [decisionCase, if_neg (Nat.not_le.mpr hnear), if_neg fun h => Nat.not_lt.mpr h.2 hend,
    if_neg (Nat.not_lt.mpr hstart), if_neg (Nat.not_lt.mpr hmissed)]

end

/-- Settles O30: each case of R67 is a branch of the decision, and R73 gives the amount of a grant sought. -/
theorem decisionFollowsTheWindow : Obligations.DecisionFollowsTheWindow := by
  intro r w a b _ hgreen
  refine ⟨decisionCase_of_far, decisionCase_of_within, fun hnear hstart => ?_, fun hnear hstart hin hend => ?_,
    fun hnear hmissed hend hfits => ?_, fun hnear hmissed hend hover => ?_⟩
  · rw [decisionCase_of_before hnear hstart]
    exact sought_advanceBy ..
  · rw [decisionCase_of_overrun hnear hstart hin hend]
    exact sought_extendBy ..
  · rw [decisionCase_of_missed hnear (hgreen.trans hmissed) hmissed hend, if_pos hfits]
  · rw [decisionCase_of_missed hnear (hgreen.trans hmissed) hmissed hend, if_neg (Nat.not_le.mpr hover)]
    exact sought_advanceBy ..

end Sys2Proof.Proofs

/-! Grants (chapter 7): the conditions of the issue check (R106), its walk along the candidate order (R107), the offer it
makes (R108), and the commands that set and clear the suspend flag (R124). -/

namespace Sys2Proof.Proofs

open Sys2Proof.Machine Sys2Proof.Safety Sys2Proof.Laws

/-! ### What a stale candidate becomes (R91, R107) -/

/-- A record with its refresh-wanted flag set. -/
def refreshed (r : Record) : Record := { r with refreshWanted := true }

theorem refreshed_comp_refreshed : refreshed ∘ refreshed = refreshed := rfl

/-- The state with a stale candidate marked for a refresh and placed in the evaluation queue. -/
def markStale (i : SlotId) (s : State) : State := enqueue i (onRecord i refreshed s)

@[simp] theorem markStale_policy (i : SlotId) (s : State) : (markStale i s).policy = s.policy := by simp [markStale]

@[simp] theorem junctionAt_markStale (i : SlotId) (s : State) (j : JunctionId) :
    junctionAt (markStale i s) j = junctionAt s j := by simp [markStale]

theorem slotAt_markStale (i : SlotId) (s : State) (k : SlotId) :
    slotAt (markStale i s) k =
      if i = k then { slotAt s k with record := (recordAt s k).map refreshed } else slotAt s k := by
  rw [markStale, slotAt_enqueue, slotAt_onRecord, recordAt]

theorem recordAt_markStale (i : SlotId) (s : State) (k : SlotId) :
    recordAt (markStale i s) k = if i = k then (recordAt s k).map refreshed else recordAt s k := by
  rw [markStale, recordAt_enqueue, recordAt_onRecord]

theorem isSome_recordAt_markStale (i : SlotId) (s : State) (k : SlotId) :
    (recordAt (markStale i s) k).isSome = (recordAt s k).isSome := by
  rw [recordAt_markStale]
  split <;> simp

theorem markStale_evalQueue {i : SlotId} {s : State} (h : (recordAt s i).isSome = true) :
    (markStale i s).evalQueue = queued s.evalQueue i := by
  rw [markStale, enqueue_eq i _ (by simpa using h), onRecord_evalQueue]

/-- The state with a group of stale candidates marked one after another. -/
def markAllStale (l : List SlotId) (s : State) : State := l.foldl (fun t i => markStale i t) s

theorem markAllStale_cons (i : SlotId) (l : List SlotId) (s : State) :
    markAllStale (i :: l) s = markAllStale l (markStale i s) := rfl

/-- Marking candidates writes the request table and the evaluation queue alone. -/
theorem markAllStale_frame (l : List SlotId) (s : State) :
    (markAllStale l s).junctions = s.junctions ∧ (markAllStale l s).directives = s.directives
      ∧ (markAllStale l s).transmitter = s.transmitter ∧ (markAllStale l s).notices = s.notices
      ∧ outside (markAllStale l s) = outside s := by
  induction l generalizing s with
  | nil => exact ⟨rfl, rfl, rfl, rfl, rfl⟩
  | cons i l ih =>
    rw [markAllStale_cons]
    simpa [markStale] using ih (markStale i s)

@[simp] theorem junctionAt_markAllStale (l : List SlotId) (s : State) (j : JunctionId) :
    junctionAt (markAllStale l s) j = junctionAt s j := junctionAt_congr (markAllStale_frame l s).1 j

/-- A slot marked twice is as one marked once. -/
theorem slotAt_markAllStale (l : List SlotId) (s : State) (k : SlotId) :
    slotAt (markAllStale l s) k =
      if k ∈ l then { slotAt s k with record := (recordAt s k).map refreshed } else slotAt s k := by
  induction l generalizing s with
  | nil => rfl
  | cons i l ih =>
    rw [markAllStale_cons, ih, slotAt_markStale, recordAt_markStale]
    by_cases hik : i = k
    · simp [hik, refreshed_comp_refreshed]
    · simp [hik, Ne.symm hik]

theorem recordAt_markAllStale_of_notMem {l : List SlotId} {s : State} {k : SlotId} (h : k ∉ l) :
    recordAt (markAllStale l s) k = recordAt s k := by
  rw [recordAt, slotAt_markAllStale, if_neg h, recordAt]

theorem markAllStale_evalQueue {l : List SlotId} {s : State} (h : ∀ k ∈ l, (recordAt s k).isSome = true) :
    (markAllStale l s).evalQueue = l.foldl queued s.evalQueue := by
  induction l generalizing s with
  | nil => rfl
  | cons i l ih =>
    obtain ⟨hi, hl⟩ := List.forall_mem_cons.mp h
    rw [markAllStale_cons, ih fun k hk => (isSome_recordAt_markStale i s k).trans (hl k hk), markStale_evalQueue hi,
      List.foldl_cons]

/-! ### The walk along the order (R107) -/

theorem passedOver_iff (now : Time) (j : JunctionId) (s : State) (r : Record) :
    PassedOver now j s r ↔
      (0 < (junctionAt s j).lockout ∧ r.cls ≠ .forced) ∨ isStale s now r = true := by
  unfold PassedOver isStale
  cases r.decision <;> simp

/-- Whether a candidate is passed over rests on the junction's context and the policy alone. -/
theorem passedOver_congr {now : Time} {j : JunctionId} {s t : State} {r : Record}
    (hj : junctionAt t j = junctionAt s j) (hp : t.policy = s.policy) :
    PassedOver now j t r ↔ PassedOver now j s r := by
  simp only [PassedOver, hj, hp]

/-- The entries of an order that the lockout does not hold back. -/
def notHeldBack (j : JunctionId) (s : State) (l : List SlotId) : List SlotId :=
  l.filter fun k => (recordAt s k).any fun r => !decide (0 < (junctionAt s j).lockout ∧ r.cls ≠ .forced)

theorem isSome_of_mem_notHeldBack {j : JunctionId} {s : State} {l : List SlotId} {k : SlotId}
    (h : k ∈ notHeldBack j s l) : (recordAt s k).isSome = true := by
  obtain ⟨r, hr, -⟩ := (Option.any_eq_true ..).mp (List.mem_filter.mp h).2
  exact Option.isSome_of_mem hr

/-- A mark moves no class, so the lockout holds back the same entries. -/
theorem notHeldBack_markStale (j : JunctionId) (i : SlotId) (s : State) (l : List SlotId) :
    notHeldBack j (markStale i s) l = notHeldBack j s l := by
  refine List.filter_congr fun k _ => ?_
  rw [recordAt_markStale, junctionAt_markStale]
  split
  · cases recordAt s k <;> rfl
  · rfl

/-- An entry passed over stays so once another, or it itself, is marked. -/
theorem passedOver_markStale {now : Time} {j : JunctionId} {s : State} {k : SlotId} (i : SlotId)
    (h : ∃ r ∈ recordAt s k, PassedOver now j s r) :
    ∃ r ∈ recordAt (markStale i s) k, PassedOver now j (markStale i s) r := by
  obtain ⟨r, hr, hpassed⟩ := h
  rw [recordAt_markStale]
  split
  · exact ⟨refreshed r, by simp [Option.mem_def.mp hr], .inr (.inl rfl)⟩
  · exact ⟨r, hr, (passedOver_congr (junctionAt_markStale ..) (markStale_policy ..)).mpr hpassed⟩

/-- The walk goes on behind an entry the lockout holds back, which stays as it is (R107). -/
theorem walkOrder_of_heldBack {now : Time} {j : JunctionId} {i : SlotId} {s : State} {r : Record}
    (hr : recordAt s i = some r) (h : 0 < (junctionAt s j).lockout ∧ r.cls ≠ .forced) (l : List SlotId) :
    walkOrder now j (i :: l) s = walkOrder now j l s := by
  simp only [walkOrder, hr, if_pos h]

/-- The walk marks a stale entry that the lockout does not hold back, and goes on behind it (R107). -/
theorem walkOrder_of_stale {now : Time} {j : JunctionId} {i : SlotId} {s : State} {r : Record}
    (hr : recordAt s i = some r) (hheld : ¬(0 < (junctionAt s j).lockout ∧ r.cls ≠ .forced))
    (hstale : isStale s now r = true) (l : List SlotId) :
    walkOrder now j (i :: l) s = walkOrder now j l (markStale i s) := by
  simp only [walkOrder, hr, if_neg hheld, if_pos hstale]
  rfl

/-- The walk goes on behind the entries it passes over, with those the lockout does not hold back marked. -/
theorem walkOrder_append_of_passedOver {now : Time} {j : JunctionId} {pre : List SlotId} {s : State}
    (h : ∀ k ∈ pre, ∃ r ∈ recordAt s k, PassedOver now j s r) (l : List SlotId) :
    walkOrder now j (pre ++ l) s = walkOrder now j l (markAllStale (notHeldBack j s pre) s) := by
  induction pre generalizing s with
  | nil => rfl
  | cons k pre ih =>
    obtain ⟨⟨r, hr, hpassed⟩, hpre⟩ := List.forall_mem_cons.mp h
    have hr : recordAt s k = some r := hr
    by_cases hheld : 0 < (junctionAt s j).lockout ∧ r.cls ≠ .forced
    · have hskip : notHeldBack j s (k :: pre) = notHeldBack j s pre :=
        List.filter_cons_of_neg (by rw [hr, Option.any_some, decide_eq_true hheld]; decide)
      rw [List.cons_append, walkOrder_of_heldBack hr hheld, ih hpre, hskip]
    · have hstale : isStale s now r = true := ((passedOver_iff now j s r).mp hpassed).resolve_left hheld
      have hkeep : notHeldBack j s (k :: pre) = k :: notHeldBack j s pre :=
        List.filter_cons_of_pos (by rw [hr, Option.any_some, decide_eq_false hheld]; rfl)
      rw [List.cons_append, walkOrder_of_stale hr hheld hstale, ih fun x hx => passedOver_markStale k (hpre x hx),
        notHeldBack_markStale, hkeep, markAllStale_cons]

/-- An entry that is not passed over ends the walk (R107). -/
theorem walkOrder_of_not_passedOver {now : Time} {j : JunctionId} {i : SlotId} {s : State} {r : Record}
    (hr : recordAt s i = some r) (h : ¬PassedOver now j s r) (post : List SlotId) :
    walkOrder now j (i :: post) s = (s, some i) := by
  obtain ⟨hheld, hstale⟩ := not_or.mp (mt (passedOver_iff now j s r).mpr h)
  simp only [walkOrder, hr, if_neg hheld, if_neg hstale]

/-! ### The issue check (R106) -/

theorem mayOffer_iff (s : State) (j : JunctionId) :
    mayOffer s j = true ↔ isLive (junctionAt s j) = true ∧ (junctionAt s j).suspended = false ∧ MayDirect s j := by
  simp [mayOffer, canDirect_iff, and_assoc]

theorem issueCheck_of_not_mayOffer {now : Time} {j : JunctionId} {s : State} (h : ¬mayOffer s j = true) :
    issueCheck now j s = s := if_neg h

theorem issueCheck_of_none_qualifies {now : Time} {j : JunctionId} {s t : State} (hmay : mayOffer s j = true)
    (hwalk : walkOrder now j (junctionAt s j).candidates s = (t, none)) : issueCheck now j s = t := by
  simp only [issueCheck, hmay, if_true, hwalk]

theorem issueCheck_of_qualifies {now : Time} {j : JunctionId} {i : SlotId} {r : Record} {o : OfferTerms} {s t : State}
    (hmay : mayOffer s j = true) (hwalk : walkOrder now j (junctionAt s j).candidates s = (t, some i))
    (hr : recordAt t i = some r) (ho : offerTerms (junctionAt t j) r = some o) :
    issueCheck now j s = makeOffer now j i o t := by
  simp only [issueCheck, hmay, if_true, hwalk, hr, Option.bind_some, ho]

/-! ### The offer (R108) -/

/-- The terms of an offer to a record whose decision is of the kind and amount of a grant. -/
theorem offerTerms_eq_some {c : Junction} {r : Record} {d : Decision} {kind : GrantKind} {n step : Nat} {st : PlanStep}
    (hd : r.decision = some d) (hkind : grantOf d.kind = some (kind, n)) (hstep : priorityOf c r.approach = some step)
    (hst : (activeSteps c)[step]? = some st) : offerTerms c r = some ⟨step, st.phase, kind, n⟩ := by
  simp [offerTerms, hd, hkind, hstep, hst]

/-- A decision of EXTEND or ADVANCE seeks the grant of that kind and amount. -/
theorem grantOf_of_kind {k : DecisionKind} {kind : GrantKind} {n : Nat}
    (h : ∃ p, (kind = .extend ∧ k = .extend n p) ∨ (kind = .advance ∧ k = .advance n p)) :
    grantOf k = some (kind, n) := by
  obtain ⟨p, ⟨rfl, rfl⟩ | ⟨rfl, rfl⟩⟩ := h <;> rfl

theorem offerDirective_eq_ite (step phase n : Nat) (kind : GrantKind) :
    offerDirective ⟨step, phase, kind, n⟩ = if kind = .extend then .extend phase n else .advance phase n := by
  cases kind <;> rfl

theorem outstandingOf_eq_ite (kind : GrantKind) :
    outstandingOf kind = if kind = .extend then .extend else .advance := by cases kind <;> rfl

/-- What a queued directive does to the queue and the transmitter rests on these two alone (R156, R157). -/
theorem queueDirective_congr (now : Time) (j : JunctionId) (k : DirectiveKind) (tag : Byte) {s t : State}
    (hd : t.directives = s.directives) (ht : t.transmitter = s.transmitter) :
    (queueDirective now j k tag t).directives = (queueDirective now j k tag s).directives
      ∧ (queueDirective now j k tag t).transmitter = (queueDirective now j k tag s).transmitter := by
  simp only [queueDirective, transmitNext, hd, ht]
  split
  · split <;> exact ⟨rfl, rfl⟩
  · exact ⟨rfl, rfl⟩

section

variable (now : Time) (j : JunctionId) (i : SlotId) (o : OfferTerms) (s : State)

/-- The context of the junction that makes the offer: the next tag, the order without the candidate, the grant OFFERED and
the outstanding directive. -/
theorem junctionAt_makeOffer :
    junctionAt (makeOffer now j i o s) j =
      (let c := junctionAt s j
       { c with
         tagCounter := c.tagCounter + 1
         candidates := c.candidates.erase i
         changeCount := c.changeCount + 1
         grant := some ⟨false, i, (slotAt s i).generation, o.step, o.kind, o.amount, now⟩
         outstanding := some ⟨outstandingOf o.kind, c.tagCounter + 1⟩
         acceptDeadline := none }) := by
  simp [makeOffer, removeCandidate, onOrder]

theorem otherJunctionsSame_makeOffer : OtherJunctionsSame j s (makeOffer now j i o s) := by
  intro k hk
  simp [makeOffer, removeCandidate, onOrder, junctionAt_onJunction_ne (Ne.symm hk)]

theorem slotAt_makeOffer (k : SlotId) :
    slotAt (makeOffer now j i o s) k =
      if k = i then
        { slotAt s i with
          record := (recordAt s i).map fun r => { r with status := .granted ((junctionAt s j).tagCounter + 1) } }
      else slotAt s k := by
  rw [makeOffer, slotAt_congr (queueDirective_slots ..), slotAt_onJunction_frame, slotAt_onRecord]
  by_cases h : k = i
  · subst h; simp [removeCandidate, onOrder, recordAt]
  · simp [h, Ne.symm h, removeCandidate, onOrder]

end

/-- The directive of an offer joins the queue of any state with the same junctions, queue and transmitter in the same
way. -/
theorem makeOffer_queue {now : Time} {j : JunctionId} {i : SlotId} {o : OfferTerms} {s t : State}
    (hj : t.junctions = s.junctions) (hd : t.directives = s.directives) (ht : t.transmitter = s.transmitter) :
    (makeOffer now j i o t).directives =
        (queueDirective now j (offerDirective o) ((junctionAt s j).tagCounter + 1) s).directives
      ∧ (makeOffer now j i o t).transmitter =
        (queueDirective now j (offerDirective o) ((junctionAt s j).tagCounter + 1) s).transmitter := by
  rw [← junctionAt_congr hj j]
  exact queueDirective_congr now j (offerDirective o) _ hd ht

/-- Settles O36: the walk passes over the entries before the first that qualifies and marks the stale ones, and that entry's
decision and the plan give the terms of the offer. -/
theorem issueCheckOffersTheFirstQualifyingCandidate : Obligations.IssueCheckOffersTheFirstQualifyingCandidate := by
  intro now j s
  refine ⟨fun hnot => issueCheck_of_not_mayOffer (mt (mayOffer_iff s j).mp hnot), fun pre hlive hfree hdirect hpre => ?_⟩
  have hmay : mayOffer s j = true := (mayOffer_iff s j).mpr ⟨hlive, hfree, hdirect⟩
  have hwalk := walkOrder_append_of_passedOver hpre
  intro stale
  obtain ⟨hjunctions, hdirectives, htransmitter, hnotices, houtside⟩ := markAllStale_frame stale s
  have hslots := slotAt_markAllStale stale s
  have hqueue : (markAllStale stale s).evalQueue = stale.foldl queued s.evalQueue :=
    markAllStale_evalQueue fun k hk => isSome_of_mem_notHeldBack hk
  refine ⟨fun horder => ?_, fun i post r d kind n step st horder hi hr hqualifies hd hkind hstep hst => ?_⟩
  · have hall : walkOrder now j (junctionAt s j).candidates s = (markAllStale stale s, none) := by
      rw [horder, ← List.append_nil pre]
      exact hwalk []
    exact ⟨markAllStale stale s, issueCheck_of_none_qualifies hmay hall, hslots, hqueue, hjunctions, hdirectives,
      htransmitter, hnotices, houtside⟩
  · have hi' : i ∉ stale := fun h => hi (List.mem_of_mem_filter h)
    have hr' : recordAt (markAllStale stale s) i = some r := (recordAt_markAllStale_of_notMem hi').trans hr
    have hqualifies' : ¬PassedOver now j (markAllStale stale s) r :=
      mt (passedOver_congr (junctionAt_markAllStale ..) (congrArg Outside.policy houtside)).mp hqualifies
    have hfirst : walkOrder now j (junctionAt s j).candidates s = (markAllStale stale s, some i) := by
      rw [horder, hwalk]
      exact walkOrder_of_not_passedOver hr' hqualifies' post
    have hterms : offerTerms (junctionAt (markAllStale stale s) j) r = some ⟨step, st.phase, kind, n⟩ := by
      rw [junctionAt_markAllStale]
      exact offerTerms_eq_some hd (grantOf_of_kind hkind) hstep hst
    refine ⟨_, issueCheck_of_qualifies hmay hfirst hr' hterms, ⟨?_, fun k => ?_, ?_, ?_⟩, ?_, ?_, ?_⟩
    · have herase : (junctionAt s j).candidates.erase i = pre ++ post := by
        rw [horder, List.erase_append_right _ hi, List.erase_cons_head]
      simp only [junctionAt_makeOffer, junctionAt_markAllStale, hslots, if_neg hi', herase, outstandingOf_eq_ite]
    · rw [slotAt_makeOffer, hr', hslots, hslots, if_neg hi', junctionAt_markAllStale]
      rfl
    · rw [makeOffer_evalQueue, hqueue]
    · rw [← offerDirective_eq_ite step]
      exact makeOffer_queue hjunctions hdirectives htransmitter
    · exact fun k hk => (otherJunctionsSame_makeOffer _ _ _ _ _ k hk).trans (junctionAt_markAllStale ..)
    · rw [makeOffer_notices, hnotices]
    · rw [outside_makeOffer, houtside]

/-! ### The suspend flag (R124, R163) -/

/-- A byte above 15 names no junction (R163). -/
theorem junctionOf_of_above {b : Byte} (h : 15 < b.toNat) : junctionOf b = none := dif_neg (by omega)

section

variable (b : Byte) {s : State} (h : ¬Busy s)
include h

/-- A JUNCTION_SUSPEND taken while the port is not EXECUTING is answered as its junction says. -/
theorem exec_junctionSuspend :
    exec (.junctionSuspend b) s = .next (taken s (.junctionSuspend b) (junctionSuspend b s).2.1
      (junctionSuspend b s).2.2 (junctionSuspend b s).1) :=
  congrArg _ (command_eq (.junctionSuspend b) s (isExecuting_of_not_busy s h))

/-- A JUNCTION_RESUME taken while the port is not EXECUTING is answered as its junction says. -/
theorem exec_junctionResume :
    exec (.junctionResume b) s = .next (taken s (.junctionResume b) (junctionResume b s).2.1
      (junctionResume b s).2.2 (junctionResume b s).1) :=
  congrArg _ (command_eq (.junctionResume b) s (isExecuting_of_not_busy s h))

end

/-- Settles O56: both commands look up their junction; where there is one, the flag is set, or cleared with the issue check
run. -/
theorem suspendAndResumeSetTheFlag : Obligations.SuspendAndResumeSetTheFlag := by
  intro b s hfree
  rw [exec_junctionSuspend b hfree, exec_junctionResume b hfree]
  refine ⟨fun habove => ?_, fun j hj => ?_⟩
  · have hnone := junctionOf_of_above habove
    simp only [junctionSuspend, junctionResume, hnone, and_self]
  · simp only [junctionSuspend, junctionResume, hj, and_self]

end Sys2Proof.Proofs

/-! Segments: the records tied to one (R147), the segment between two junctions and the samples it takes (R142, R144,
R145), and SEGMENT_SET (R139). -/

namespace Sys2Proof.Proofs

open Sys2Proof.Machine Sys2Proof.Safety Sys2Proof.Laws

/-! ### The tied records (R147) -/

/-- The slots tied to a segment rest on the request table and the junction contexts alone. -/
theorem holdsTied_congr {s t : State} (hslots : t.slots = s.slots) (hjunctions : t.junctions = s.junctions)
    (k : SegmentId) : holdsTied t k = holdsTied s k := by
  funext i
  simp only [holdsTied, recordAt_congr hslots, junctionAt_congr hjunctions]

/-- The tied records join the queue, seen from a state with the same request table and junction contexts. -/
theorem enqueueTied_eq {s t : State} (k : SegmentId) (hslots : t.slots = s.slots)
    (hjunctions : t.junctions = s.junctions) :
    enqueueTied k t = { t with evalQueue := queuedWhere t.evalQueue (holdsTied s k) } := by
  rw [← holdsTied_congr hslots hjunctions]
  exact enqueueWhere_eq (tiedTo t k) t

theorem enqueueTied_setSegment (k : SegmentId) (g : Option Segment) (s : State) :
    enqueueTied k (setSegment k g s) =
      { setSegment k g s with evalQueue := queuedWhere s.evalQueue (holdsTied s k) } := enqueueTied_eq k rfl rfl

/-! ### The segment between two junctions (R142) -/

/-- The test of the search for a pair is that the segment is configured with it. -/
theorem any_hasPair_iff (s : State) (k : SegmentId) (i j : JunctionId) :
    ((segmentAt s k).any fun g => decide (g.source = i) && decide (g.target = j)) = true ↔
      ∃ g ∈ segmentAt s k, g.source = i ∧ g.target = j := by
  simp [Option.any_eq_true]

/-- A configured segment is the one found for its pair of junctions, as no other has that pair (R137). -/
theorem segmentBetween_of_segmentAt {s : State} {k : SegmentId} {g : Segment} (hbounded : SegmentsBounded s)
    (hg : segmentAt s k = some g) : segmentBetween s g.source g.target = some k := by
  obtain ⟨-, hunique⟩ := hbounded
  refine find?_finRange_eq_some ((any_hasPair_iff ..).mpr ⟨g, hg, rfl, rfl⟩) fun m hm => ?_
  refine Bool.eq_false_iff.mpr fun hfound => hm.ne ?_
  obtain ⟨h, hh, hsource, htarget⟩ := (any_hasPair_iff ..).mp hfound
  exact hunique m k h hh g hg hsource htarget

/-- A sample goes to the configured segment of its pair of junctions, captured up to Tcap and an overrun above it. -/
theorem handSample_of_segmentAt {s : State} {k : SegmentId} {g : Segment} (now : Time) (sample : Int)
    (hbounded : SegmentsBounded s) (hg : segmentAt s k = some g) :
    handSample now g.source g.target sample s =
      if sample ≤ g.tcap then takeSample now k sample g s else takeOverrun k g s := by
  simp only [handSample, segmentBetween_of_segmentAt hbounded hg, hg]

/-! ### A captured sample (R144) -/

/-- The smoothed estimate is held to at least Tmin, so no negative number is cut off in taking it as a natural number. -/
theorem smoothed_eq (g : Segment) (sample : Int) :
    (smoothed g sample : Int) =
      max (g.tmin : Int) (min (g.tcap : Int) (g.estimate + Int.tdiv (sample - g.estimate) 4)) :=
  Int.toNat_of_nonneg ((Int.natCast_nonneg g.tmin).trans (le_max_left _ _))

theorem isFresh_iff (g : Segment) : isFresh g = true ↔ ∃ d, g.state = .fresh d := by
  unfold isFresh
  cases g.state <;> simp

section

variable (now : Time) (k : SegmentId) {sample : Int} {g : Segment} (s : State)

/-- A captured sample that leaves a FRESH segment its estimate enqueues nothing. -/
theorem takeSample_of_unchanged (hfresh : ∃ d, g.state = .fresh d) (hsame : smoothed g sample = g.estimate) :
    takeSample now k sample g s = setSegment k (some (captured s.policy now sample g)) s :=
  if_pos ⟨(isFresh_iff g).mpr hfresh, hsame⟩

/-- A captured sample that changes the state or the estimate enqueues the tied records. -/
theorem takeSample_of_changed (h : smoothed g sample ≠ g.estimate ∨ ∀ d, g.state ≠ .fresh d) :
    takeSample now k sample g s = enqueueTied k (setSegment k (some (captured s.policy now sample g)) s) := by
  refine if_neg fun ⟨hfresh, hsame⟩ => ?_
  obtain ⟨d, hd⟩ := (isFresh_iff g).mp hfresh
  exact h.elim (· hsame) (· d hd)

/-! ### An overrun, by the rows of R145 -/

theorem takeOverrun_of_low {d : Time} (hd : g.state = .fresh d) (h : g.streak < 2) :
    takeOverrun k g s = setSegment k (some { g with streak := g.streak + 1 }) s := by
  simp only [takeOverrun, hd, if_pos h]

/-- The third overrun in a row sets the estimate to Tcap and the segment to DEGRADED, which enqueues the tied records. -/
theorem takeOverrun_of_third {d : Time} (hd : g.state = .fresh d) (h : 2 ≤ g.streak) :
    takeOverrun k g s =
      enqueueTied k
        (raise .segmentDegraded
          (setSegment k (some { g with streak := 3, estimate := g.tcap, state := .degraded d }) s)) := by
  simp only [takeOverrun, hd, if_neg (not_lt.mpr h)]

theorem takeOverrun_of_degraded {d : Time} (hd : g.state = .degraded d) : takeOverrun k g s = s := by
  simp only [takeOverrun, hd]

theorem takeOverrun_of_stale (hstale : g.state = .stale) :
    takeOverrun k g s = setSegment k (some { g with streak := min 3 (g.streak + 1) }) s := by
  simp only [takeOverrun, hstale]

end

/-- Settles O42: the pair's segment takes the sample (R142); a captured one is smoothed (R144), and an overrun goes by the
rows of R145. -/
theorem samplesMoveTheEstimate : Obligations.SamplesMoveTheEstimate := by
  intro now i j sample s k g hbounded hg hsource htarget tied set moved
  subst hsource htarget
  have hmoved : (smoothed g sample : Int) = moved := smoothed_eq g sample
  rw [handSample_of_segmentAt now sample hbounded hg]
  refine ⟨fun hcaptured => ?_, fun hoverrun => ?_⟩
  · rw [if_pos hcaptured]
    refine ⟨fun hsame hfresh => ?_, fun hchanged => ?_⟩
    · exact takeSample_of_unchanged now k s hfresh (by omega)
    · exact (takeSample_of_changed now k s (hchanged.imp_left (by omega))).trans (enqueueTied_eq k rfl rfl)
  · rw [if_neg (by omega)]
    refine ⟨fun d hd => ⟨takeOverrun_of_low k s hd, fun hthird => ?_⟩, fun d => takeOverrun_of_degraded k s,
      takeOverrun_of_stale k s⟩
    exact (takeOverrun_of_third k s hd (by omega)).trans (enqueueTied_eq k rfl rfl)

/-! ### SEGMENT_SET (R139) -/

/-- A byte above 31 names no segment (R139). -/
theorem segmentOf_of_above {b : Byte} (h : 31 < b.toNat) : segmentOf b = none := dif_neg (by omega)

theorem segmentOf_of_toNat {b : Byte} {k : SegmentId} (h : b.toNat = k.val) : segmentOf b = some k := by
  simp [segmentOf, h]

/-- Checks 4 and 5 of R139. -/
theorem segmentInRange_iff (b : SegmentBody) :
    segmentInRange b = true ↔
      (50 ≤ b.length.toNat ∧ b.length.toNat ≤ 4000) ∧ (20 ≤ b.tmin.toNat ∧ b.tmin.toNat ≤ 6000)
        ∧ (100 ≤ b.tcap.toNat ∧ b.tcap.toNat ≤ 6000) ∧ b.tmin.toNat ≤ b.tcap.toNat
        ∧ b.tmin.toNat ≤ b.tnom.toNat ∧ b.tnom.toNat ≤ b.tcap.toNat := by
  simp only [segmentInRange, Bool.and_eq_true, decide_eq_true_eq, and_assoc]

/-- Check 6 of R139. -/
theorem pairTaken_iff (s : State) (k : SegmentId) (i j : JunctionId) :
    pairTaken s k i j = true ↔
      ∃ m : SegmentId, m ≠ k ∧ ∃ g ∈ segmentAt s m, g.source = i ∧ g.target = j := by
  simp only [pairTaken, List.any_eq_true, List.mem_finRange, true_and, Bool.and_eq_true, decide_eq_true_eq,
    any_hasPair_iff]

/-- A SEGMENT_SET taken while the port is not EXECUTING is answered as its checks say. -/
theorem exec_segmentSet (b : SegmentBody) {s : State} (h : ¬Busy s) :
    exec (.segmentSet b) s =
      .next (taken s (.segmentSet b) (segmentSet b s).2.1 (segmentSet b s).2.2 (segmentSet b s).1) :=
  congrArg _ (command_eq (.segmentSet b) s (isExecuting_of_not_busy s h))

theorem segmentSet_of_badSegment {b : SegmentBody} (s : State) (h : 31 < b.segment.toNat) :
    segmentSet b s = (s, .badField, []) := by
  simp only [segmentSet, segmentOf_of_above h]

section

variable {b : SegmentBody} (s : State) {k : SegmentId} (hk : segmentOf b.segment = some k)
include hk

theorem segmentSet_of_badJunction (h : 15 < b.source.toNat ∨ 15 < b.target.toNat) :
    segmentSet b s = (s, .badJunction, []) := by
  simp only [segmentSet, hk]
  obtain hsource | htarget := h
  · simp only [junctionOf_of_above hsource]
  · rw [junctionOf_of_above htarget]
    cases junctionOf b.source <;> rfl

/-- Checks 3 to 6 of R139 at a segment and two junctions of the corridor, and the segment configured where they pass. -/
theorem segmentSet_of_junctions {i j : JunctionId} (hi : junctionOf b.source = some i)
    (hj : junctionOf b.target = some j) :
    segmentSet b s =
      if i ≠ j ∧ segmentInRange b = true then
        if pairTaken s k i j = true then (s, .notAllowed, [])
        else (enqueueTied k (setSegment k (some (configured s b i j)) s), .ok, [])
      else (s, .badField, []) := by
  simp only [segmentSet, hk, hi, hj]
  by_cases hsame : i = j
  · rw [if_pos hsame, if_neg fun ⟨hdiffer, _⟩ => hdiffer hsame]
  · simp only [if_neg hsame, and_iff_right hsame, ne_eq]

end

/-- Settles O54: the checks are R139's in its order, and the command that passes them configures the segment with the
body's fields. -/
theorem segmentSetConfiguresTheSegment : Obligations.SegmentSetConfiguresTheSegment := by
  intro b s hfree answers
  have hanswers : ∀ {code : ResponseCode} {t : State}, segmentSet b s = (t, code, []) → answers code t := by
    intro code t h
    simp only [answers, exec_segmentSet b hfree, h]
  refine ⟨fun habove => hanswers (segmentSet_of_badSegment s habove), fun k hsegment => ?_⟩
  have hk := segmentOf_of_toNat hsegment
  refine ⟨fun hbad => hanswers (segmentSet_of_badJunction s hk hbad), fun i j hsource htarget => ?_⟩
  intro inRange held
  have hset := segmentSet_of_junctions s hk (junctionOf_eq_some_iff.mpr hsource) (junctionOf_eq_some_iff.mpr htarget)
  have hrange : (i ≠ j ∧ segmentInRange b = true) ↔ inRange := and_congr_right' (segmentInRange_iff b)
  have hheld : pairTaken s k i j = true ↔ held := pairTaken_iff s k i j
  refine ⟨fun hout => hanswers ?_, fun hin htaken => hanswers ?_, fun hin hopen => hanswers ?_⟩
  · rw [hset, if_neg (mt hrange.mp hout)]
  · rw [hset, if_pos (hrange.mpr hin), if_pos (hheld.mpr htaken)]
  · rw [hset, if_pos (hrange.mpr hin), if_neg (mt hheld.mp hopen), enqueueTied_setSegment]
    rfl

end Sys2Proof.Proofs

/-! The notice unit (R166, R167): a raise by its bit number, the ATTN line, NOTICE_WRITE and its mask, and the bytes of
NOTICE_READ. -/

namespace Sys2Proof.Proofs

open Sys2Proof.Machine Sys2Proof.Safety Sys2Proof.Laws

/-! ### The categories and their bit numbers (R166) -/

theorem mem_categories (c : Category) : c ∈ categories := by cases c <;> decide

/-- The list of the categories is in the order of their bit numbers. -/
theorem map_categoryBit_getElem?_categories : ∀ n : Fin 12, (categories[n.val]?).map categoryBit = some n := by decide

theorem categoryBit_of_getElem? {n : Fin 12} {c : Category} (h : categories[n.val]? = some c) : categoryBit c = n := by
  have hmap := map_categoryBit_getElem?_categories n
  rw [h] at hmap
  exact Option.some.inj hmap

/-! ### The ATTN line (R167) -/

theorem attn_iff (s : State) :
    attn s = true ↔
      s.masterEnable = true ∧ ∃ k : Fin 12, s.notices[k].raised = true ∧ s.notices[k].enabled = true := by
  simp only [attn, Bool.and_eq_true, List.any_eq_true, Vector.mem_toList_iff]
  refine and_congr_right' ⟨?_, ?_⟩
  · rintro ⟨n, hmem, hn⟩
    obtain ⟨k, hk, rfl⟩ := Vector.mem_iff_getElem.mp hmem
    exact ⟨⟨k, hk⟩, hn⟩
  · rintro ⟨k, hk⟩
    exact ⟨s.notices[k], Vector.getElem_mem k.isLt, hk⟩

theorem attn_poweredOn (s : State) : attn (poweredOn s) = false := rfl

/-! ### NOTICE_WRITE (R166) -/

theorem notices_onMasked (m : Half) (f : Notice → Notice) (s : State) (k : Fin 12) :
    (onMasked m f s).notices[k] = if m.getLsbD k.val then f s.notices[k] else s.notices[k] := by
  simp only [onMasked, Fin.getElem_fin, Vector.getElem_ofFn]

/-- A masked change leaves everything but the notices. -/
theorem onMasked_frame (m : Half) (f : Notice → Notice) (s : State) :
    { onMasked m f s with notices := s.notices } = s := rfl

/-- What R166 refuses: a target above 2, an action other than 1 or 2, or a mask bit above 11 where the target is not the
master enable. -/
theorem noticeWrite_of_refused {target action : Byte} {m : Half} (s : State)
    (h : 2 < target.toNat ∨ (action ≠ 1#8 ∧ action ≠ 2#8) ∨ (target ≠ 2#8 ∧ 4096 ≤ m.toNat)) :
    noticeWrite target action m s = (s, .badField, []) := by
  obtain htarget | ⟨hset, hclear⟩ | ⟨hmaster, hmask⟩ := h
  · have hzero : target ≠ 0#8 := by bv_omega
    have hone : target ≠ 1#8 := by bv_omega
    have htwo : target ≠ 2#8 := by bv_omega
    simp only [noticeWrite, hzero, hone, htwo, false_and, if_false, ite_self]
  · simp only [noticeWrite, if_neg hset, if_neg hclear]
  · have hout : maskInRange m = false := by simpa [maskInRange] using hmask
    simp [noticeWrite, hmaster, hout]

section

variable {m : Half} (h : m.toNat < 4096) (s : State)
include h

theorem noticeWrite_enablesSet :
    noticeWrite 0 1 m s = (onMasked m (fun n => { n with enabled := true }) s, .ok, []) := by
  simp [noticeWrite, maskInRange, h]

theorem noticeWrite_enablesClear :
    noticeWrite 0 2 m s = (onMasked m (fun n => { n with enabled := false }) s, .ok, []) := by
  simp [noticeWrite, maskInRange, h]

theorem noticeWrite_pendingSet : noticeWrite 1 1 m s = (onMasked m raisedNotice s, .ok, []) := by
  simp [noticeWrite, maskInRange, h]

theorem noticeWrite_pendingClear :
    noticeWrite 1 2 m s = (onMasked m (fun n => { n with raised := false, count := 0 }) s, .ok, []) := by
  simp [noticeWrite, maskInRange, h]

end

/-- The master enable is set whatever the mask. -/
theorem noticeWrite_masterOn (m : Half) (s : State) :
    noticeWrite 2 1 m s = ({ s with masterEnable := true }, .ok, []) := by simp [noticeWrite]

/-- The master enable is cleared whatever the mask. -/
theorem noticeWrite_masterOff (m : Half) (s : State) :
    noticeWrite 2 2 m s = ({ s with masterEnable := false }, .ok, []) := by simp [noticeWrite]

/-- A NOTICE_WRITE taken while the port is not EXECUTING leaves what its target, action and mask give. -/
theorem command_noticeWrite {target action : Byte} {m : Half} {s t : State} {code : ResponseCode} (hfree : ¬Busy s)
    (h : noticeWrite target action m s = (t, code, [])) :
    command (.noticeWrite target action m) s = taken s (.noticeWrite target action m) code [] t := by
  rw [command_eq _ s (isExecuting_of_not_busy s hfree)]
  simp only [act, h]

/-! ### NOTICE_READ (R162, R166) -/

/-- Bytes that stand behind others are a field at the offset where those end. -/
theorem field_append {p l q : List Byte} {v : Int} (h : (valueOf l : Int) = v % 256 ^ l.length) :
    Field (p ++ (l ++ q)) p.length l.length v := by
  refine ⟨by simp only [List.length_append]; omega, ?_⟩
  rw [List.drop_left, List.take_left, h]

@[simp] theorem length_le16 (h : Half) : (le16 h).length = 2 := rfl

theorem field_le16 (p q : List Byte) (h : Half) : Field (p ++ (le16 h ++ q)) p.length 2 h.toNat := by
  refine field_append (l := le16 h) ?_
  have := h.isLt
  rw [valueOf_le16, length_le16]
  omega

theorem field_byteOf (p q : List Byte) (n : Nat) : Field (p ++ (byteOf n :: q)) p.length 1 n := by
  refine field_append (l := [byteOf n]) ?_
  simp [byteOf_toNat]

/-- One power of two for each true bit sums up to the number of these bits. -/
theorem sum_map_finRange_eq_ofBits {n : Nat} (f : Fin n → Bool) :
    ((List.finRange n).map fun k => if f k then 2 ^ k.val else 0).sum = Nat.ofBits f := by
  induction n with
  | zero => rfl
  | succ n ih =>
    have hshift : ∀ k : Fin n, (if f k.succ then 2 ^ k.succ.val else 0) = 2 * if f k.succ then 2 ^ k.val else 0 := by
      intro k
      split <;> simp [pow_succ']
    have hrest : ((List.finRange n).map fun k => if f k.succ then 2 ^ k.succ.val else 0).sum
        = 2 * Nat.ofBits (f ∘ Fin.succ) := by
      simp only [hshift, List.sum_map_mul_left]
      exact congrArg _ (ih (f ∘ Fin.succ))
    rw [List.finRange_succ, List.map_cons, List.sum_cons, List.map_map, Nat.ofBits_succ, ← hrest, add_comm]
    cases f 0 <;> rfl

/-- A mask has the bit of a category where its notice passes, and no bit above 11. -/
theorem getLsbD_maskOf (p : Notice → Bool) (s : State) (k : Fin 16) :
    (maskOf p s).getLsbD k.val = (s.notices[k.val]?).any p := by
  rw [maskOf, sum_map_finRange_eq_ofBits fun i : Fin 12 => p s.notices[i], BitVec.getLsbD_ofNat,
    decide_eq_true k.isLt, Bool.true_and]
  by_cases hk : k.val < 12
  · rw [Nat.testBit_ofBits_lt _ _ hk, Vector.getElem?_eq_getElem hk]
    rfl
  · rw [Nat.testBit_ofBits_ge _ _ (by omega), Vector.getElem?_eq_none (by omega)]
    rfl

/-- The count of a category stands behind the counts of the categories before it. -/
theorem field_counts (p : List Byte) (s : State) (k : Fin 12) :
    Field (p ++ s.notices.toList.map fun n => byteOf n.count) (p.length + k.val) 1 s.notices[k].count := by
  have hk : k.val < (s.notices.toList.map fun n => byteOf n.count).length := by simp
  have hsplit : (s.notices.toList.map fun n => byteOf n.count) =
      (s.notices.toList.map fun n => byteOf n.count).take k.val
        ++ (byteOf s.notices[k].count :: (s.notices.toList.map fun n => byteOf n.count).drop (k.val + 1)) := by
    conv_lhs => rw [← List.take_append_drop k.val (s.notices.toList.map _), List.drop_eq_getElem_cons hk]
    simp
  have hlength : (p ++ (s.notices.toList.map fun n => byteOf n.count).take k.val).length = p.length + k.val := by
    simp
  rw [hsplit, ← List.append_assoc, ← hlength]
  exact field_byteOf ..

theorem noticeLayout_noticeBytes (s : State) : NoticeLayout s (noticeBytes s) := by
  refine ⟨?_, ⟨maskOf Notice.raised s, ?_, getLsbD_maskOf _ s⟩, ⟨maskOf Notice.enabled s, ?_, getLsbD_maskOf _ s⟩, ?_, ?_⟩
  · simp [noticeBytes]
  · simpa [noticeBytes] using field_le16 [] _ _
  · simpa [noticeBytes] using field_le16 (le16 (maskOf Notice.raised s)) _ _
  · have hflag : flagByte s.masterEnable = byteOf (if s.masterEnable then 1 else 0) := by
      cases s.masterEnable <;> rfl
    have hfield := field_byteOf (le16 (maskOf Notice.raised s) ++ le16 (maskOf Notice.enabled s))
      (s.notices.toList.map fun n => byteOf n.count) (if s.masterEnable then 1 else 0)
    simpa [noticeBytes, hflag] using hfield
  · exact field_counts (le16 (maskOf Notice.raised s) ++ le16 (maskOf Notice.enabled s) ++ [flagByte s.masterEnable]) s

/-- Settles O59: ATTN is read off the notices, a raise acts at its category's bit number, a NOTICE_WRITE in range is a
masked change or a write of the master enable, and NOTICE_READ answers the bytes of R162's layout. -/
theorem noticeCommandsActOnTheirMask : Obligations.NoticeCommandsActOnTheirMask := by
  refine ⟨fun s => ⟨attn_iff s, poweredOn s, exec_powerOn s, attn_poweredOn s⟩, mem_categories,
    fun n k c s hc => ⟨?_, rfl⟩, fun m s hfree => ?_⟩
  · rw [notices_raise, categoryBit_of_getElem? hc]
    simp only [eq_comm, raisedNotice]
  have hwrite : ∀ {target action : Byte} {code : ResponseCode} {t : State},
      noticeWrite target action m s = (t, code, []) →
      Host.Outcome.next (command (.noticeWrite target action m) s) =
        (.next (taken s (.noticeWrite target action m) code [] t) : Host.Outcome State Fault Refusal) :=
    fun h => congrArg _ (command_noticeWrite hfree h)
  have hmasked := fun f => And.intro (notices_onMasked m f s) (onMasked_frame m f s)
  refine ⟨fun hm => ⟨?_, ?_, ?_, ?_⟩, hwrite (noticeWrite_masterOn m s), hwrite (noticeWrite_masterOff m s),
    fun target action hrefused => hwrite (noticeWrite_of_refused s hrefused),
    noticeBytes s, noticeLayout_noticeBytes s, congrArg _ (command_eq .noticeRead s (isExecuting_of_not_busy s hfree))⟩
  · exact ⟨_, hmasked _, hwrite (noticeWrite_enablesSet hm s)⟩
  · exact ⟨_, hmasked _, hwrite (noticeWrite_enablesClear hm s)⟩
  · exact ⟨_, hmasked raisedNotice, hwrite (noticeWrite_pendingSet hm s)⟩
  · exact ⟨_, hmasked _, hwrite (noticeWrite_pendingClear hm s)⟩

end Sys2Proof.Proofs

/-! What a command can change (the whole of `exec`, once): every command but power-on and the clock's tick is a run of
elementary changes, each of one part of the state, or the creation of a record. The invariants that speak of one part at a
time are read off the elementary changes. -/

namespace Sys2Proof.Proofs

open Sys2Proof.Machine Sys2Proof.Safety Sys2Proof.Laws

/-! ### The moves of one part -/

/-- What happens to a notice: it is raised, it is cleared, or its flag and its count stay (R166). -/
inductive NoticeMove (n n' : Notice) : Prop
  | kept (hflag : n'.raised = n.raised) (hcount : n'.count = n.count)
  | raised (h : n' = raisedNotice n)
  | cleared (hflag : n'.raised = false) (hcount : n'.count = 0)

/-- The clock fields of a junction context, but for those no invariant speaks of. -/
structure ClockFields where
  sync : Sync
  localMode : Option LocalMode
  activePlan : Option Plan
  stagedPlan : Option Plan
  liveness : Option Time
  lastCycleStart : Option Time
  currentStep : Option Nat
  stepStart : Option Time

/-- The clock fields of a junction context. -/
def clockOf (c : Junction) : ClockFields :=
  ⟨c.sync, c.localMode, c.activePlan, c.stagedPlan, c.liveness, c.lastCycleStart, c.currentStep, c.stepStart⟩

/-- What happens to the plan slots at a cycle start: both stay, or the staged plan is adopted (R11). -/
inductive PlansMove (c c' : Junction) : Prop
  | kept (hactive : c'.activePlan = c.activePlan) (hstaged : c'.stagedPlan = c.stagedPlan)
  | adopted (hactive : c'.activePlan = c.stagedPlan) (hstaged : c'.stagedPlan = none)

/-- What happens to the clock of a junction (R7 to R23). -/
inductive ClockMove (c c' : Junction) : Prop
  | kept (h : clockOf c' = clockOf c)
  | dark (hdark : isLive c' = false) (hplans : PlansMove c c')
  | renewed (t : Time) (h : clockOf c' = { clockOf c with liveness := some t })
  | coord (h : clockOf c' = { clockOf c with localMode := some .coord })
  | stepped (k : Nat) (now : Time) (hk : k < (activeSteps c).length)
      (h : clockOf c' = { clockOf c with currentStep := some k, stepStart := some now })
  | limited (t : Time) (hlive : isLive c = true) (h : clockOf c' = { clockOf c with sync := .live t })
  | cycled (t now : Time) (hlive : isLive c = true)
      (h : clockOf c' = { clockOf c with
        sync := .live t, lastCycleStart := some now, currentStep := some 0, stepStart := some now })
  | entered (hmode : c.localMode = some .coord) (hlink : c.liveness.isSome = true) (hplan : c'.activePlan.isSome = true)
      (hplans : PlansMove c c') (t now : Time)
      (h : clockOf c' = { clockOf c with
        sync := .live t, activePlan := c'.activePlan, stagedPlan := c'.stagedPlan, lastCycleStart := some now,
        currentStep := some 0, stepStart := some now })
  | staged (p : Plan) (hsound : PlanSound p) (hid : ∀ q ∈ c.activePlan, q.planId ≠ p.planId)
      (h : clockOf c' = { clockOf c with stagedPlan := some p })

/-- What happens to a junction's debt, lockout and cycle adjustment (R15, R125, R126, R128, R129). -/
structure RecoveryMove (p : Policy) (c c' : Junction) : Prop where
  debt : c'.debt = c.debt ∨ (-999 ≤ c'.debt ∧ c'.debt ≤ 999)
  lockout : c'.lockout ≤ c.lockout ∨ c'.lockout = p.lockoutCycles
  adjustment : c'.adjustment = c.adjustment ∨ (-1200 ≤ c'.adjustment ∧ c'.adjustment ≤ 1200)

/-- What happens to a junction context. -/
structure ContextMove (p : Policy) (c c' : Junction) : Prop where
  clock : ClockMove c c'
  recovery : RecoveryMove p c c'

/-- What happens to a record that stays in its slot, but for the storing of results: its state and its mark change, it is
marked while its evaluation is in flight, it is restated, or it is forced (R11, R42, R47, R49). -/
inductive RecordMove (flying : Bool) (r : Record) : Record → Prop
  | status (st : RecordState) (wanted : Bool) : RecordMove flying r { r with status := st, refreshWanted := wanted }
  | marked (h : flying = true) : RecordMove flying r { r with changedInFlight := true }
  | refreshed (s : State) (m : CheckInMsg) (k : CheckedKey) : RecordMove flying r (Machine.refreshed s m k flying r)
  | updated (s : State) (m : UpdateMsg) : RecordMove flying r (updated s m flying r)
  | forced : RecordMove flying r { r with cls := .forced, score := 1023 }

/-- What happens to a slot whose generation stays. -/
inductive SlotMove (s t : State) (i : SlotId) : Prop
  | kept (h : slotAt t i = slotAt s i)
  | record (r r' : Record) (hr : recordAt s i = some r) (hmove : RecordMove (inFlight s i) r r')
      (h : slotAt t i = { slotAt s i with record := some r' })

/-- What happens to a segment record: a configured one keeps its junctions and stays in its ranges, or one is configured
whose pair no other has (R137, R139). -/
inductive SegmentMove (s : State) (k : SegmentId) (g' : Segment) : Prop
  | moved (g : Segment) (hg : segmentAt s k = some g) (hsource : g'.source = g.source) (htarget : g'.target = g.target)
      (h : SegmentBounded g → SegmentBounded g')
  | configured (h : SegmentBounded g')
      (hfree : ∀ m, m ≠ k → ∀ g ∈ segmentAt s m, ¬(g.source = g'.source ∧ g.target = g'.target))

/-! ### The elementary changes -/

/-- One elementary change of the state. -/
inductive Change : State → State → Prop
  | aside {s t : State}
      (h : { t with
        directives := s.directives, transmitter := s.transmitter, port := s.port, spiDriven := s.spiDriven,
        cursor := s.cursor, masterEnable := s.masterEnable, freeCount := s.freeCount } = s) : Change s t
  | notices {s t : State} (hmove : ∀ k : Fin 12, NoticeMove s.notices[k] t.notices[k])
      (h : { t with notices := s.notices } = s) : Change s t
  | contexts {s t : State} (hmove : ∀ j, ContextMove s.policy (junctionAt s j) (junctionAt t j))
      (h : { t with junctions := s.junctions } = s) : Change s t
  | policy {s : State} (p : Policy) (hp : PolicyBounded p) : Change s { s with policy := p }
  | enqueued {s : State} (i : SlotId) : Change s (enqueue i s)
  | shortened {s : State} (q : List SlotId) (hq : q.Sublist s.evalQueue) : Change s { s with evalQueue := q }
  | records {s t : State} (hmove : ∀ i, SlotMove s t i) (h : { t with slots := s.slots } = s) : Change s t
  | vacated {s : State} (i : SlotId) : Change s (onSlot i vacate (dequeue i s))
  | cleared {s : State} : Change s { s with slots := s.slots.map vacate, evalQueue := [] }
  | started {s : State} (i : SlotId) (rest : List SlotId) (r : Record) (now : Time) (hidle : s.flight = none)
      (hq : s.evalQueue = i :: rest) (hr : recordAt s i = some r) :
      Change s { s with
        evalQueue := rest
        flight := some { slot := i, generation := (slotAt s i).generation, te := now, reads := readsOf s r } }
  | lost {s : State} (f : Flight) (hf : s.flight = some f)
      (h : recordAt s f.slot = none ∨ (slotAt s f.slot).generation ≠ f.generation) : Change s { s with flight := none }
  | restated {s : State} (f : Flight) (hf : s.flight = some f) :
      Change s (onRecord f.slot (fun r => { r with changedInFlight := false }) { s with flight := none })
  | stored {s : State} (f : Flight) (r : Record) (hf : s.flight = some f) (hr : recordAt s f.slot = some r)
      (hgen : (slotAt s f.slot).generation = f.generation) (hunchanged : r.changedInFlight = false) :
      Change s (onRecord f.slot (stored (evaluate f.reads f.te)) { s with flight := none })
  | segment {s : State} (k : SegmentId) (g : Segment) (h : SegmentMove s k g) : Change s (setSegment k (some g) s)
  | passageWritten {s : State} (e : PassageEntry) (h : realVehicle e.vehicle = true) :
      Change s { s with passages := writeEntry e s.passages }
  | passagesDropped {s : State} (l : List PassageEntry) (h : l.Sublist s.passages) : Change s { s with passages := l }
  | assembled {s : State} (link : Link) (a : Assembler)
      (h : AssemblerSound link (assemblerOf s link) → AssemblerSound link a) : Change s (setAssembler link a s)

/-- A run of elementary changes. -/
def Changes : State → State → Prop := Relation.ReflTransGen Change

/-- No slot holds the key of a vehicle at a junction (R38). -/
def KeyFree (s : State) (v : Half) (j : JunctionId) : Prop :=
  ∀ i : SlotId, ∀ r ∈ recordAt s i, ¬(r.vehicle = v ∧ r.junction = j)

/-- A CHECK_IN creates a record in a vacant slot and enqueues it (R46), in a state that differs from s in nothing the
request table or the evaluator holds. -/
def Creates (s t : State) : Prop :=
  ∃ (u : State) (m : CheckInMsg) (k : CheckedKey) (i : SlotId), Changes s u ∧ u.slots = s.slots ∧ u.flight = s.flight
    ∧ recordAt u i = none ∧ realVehicle m.vehicle = true ∧ KeyFree u m.vehicle k.junction
    ∧ t = enqueue i (onSlot i (fun sl => { sl with record := some (newRecord u m k) }) u)

theorem Changes.refl (s : State) : Changes s s := Relation.ReflTransGen.refl

theorem Changes.trans {s t u : State} (h : Changes s t) (h' : Changes t u) : Changes s u := Relation.ReflTransGen.trans h h'

theorem Changes.tail {s t u : State} (h : Changes s t) (h' : Change t u) : Changes s u := Relation.ReflTransGen.tail h h'

theorem Change.changes {s t : State} (h : Change s t) : Changes s t := Relation.ReflTransGen.single h

/-- What every elementary change keeps, a run of them keeps. -/
theorem Changes.keeps {P : State → Prop} (hstep : ∀ s t, Change s t → P s → P t) {s t : State} (h : Changes s t)
    (hs : P s) : P t := by
  induction h with
  | refl => exact hs
  | tail _ hlast ih => exact hstep _ _ hlast ih

/-! ### CORRIDOR_CLEAR in two parts (R168) -/

/-- The state with every grant ended as CORRIDOR_CLEAR ends it (R123). -/
def endedGrants (now : Time) (s : State) : State :=
  (List.finRange 16).foldl (fun t j => clearOffered j t)
    ((acceptedJunctions s).foldl (fun t j => clearAccepted now j t) s)

/-- The state with every order, slot, queue entry and passage entry cleared (R168). -/
def emptiedTable (s : State) : State :=
  { s with
    junctions := s.junctions.map emptyOrder
    slots := s.slots.map vacate
    evalQueue := []
    passages := []
    freeCount := s.freeCount + 1 }

theorem corridorClear_eq (now : Time) (s : State) : corridorClear now s = emptiedTable (endedGrants now s) := rfl

/-! ### Context moves -/

theorem RecoveryMove.kept {p : Policy} {c c' : Junction} (hdebt : c'.debt = c.debt) (hlockout : c'.lockout = c.lockout)
    (hadjustment : c'.adjustment = c.adjustment) : RecoveryMove p c c' :=
  ⟨.inl hdebt, .inl hlockout.le, .inl hadjustment⟩

/-- The fields of a junction context that an invariant of one junction speaks of. -/
def watched (c : Junction) : ClockFields × Int × Nat × Int := (clockOf c, c.debt, c.lockout, c.adjustment)

/-- A change of a context outside its clock and its recovery state. -/
theorem ContextMove.of_watched {p : Policy} {c c' : Junction} (h : watched c' = watched c) : ContextMove p c c' := by
  obtain ⟨hclock, hdebt, hlockout, hadjustment⟩ := Prod.mk.inj h |>.imp_right fun h => by simpa using h
  exact ⟨.kept hclock, .kept hdebt hlockout hadjustment⟩

theorem ContextMove.refl (p : Policy) (c : Junction) : ContextMove p c c := .of_watched rfl

theorem clamp_mem {lo hi : Int} (h : lo ≤ hi) (x : Int) : lo ≤ clamp lo hi x ∧ clamp lo hi x ≤ hi := by
  unfold clamp; omega

theorem contextMove_adjustBy (p : Policy) (d : Int) (c : Junction) : ContextMove p c (adjustBy d c) :=
  ⟨.kept rfl, .inl rfl, .inl le_rfl, .inr (clamp_mem (by decide) _)⟩

/-- A change of one junction's context. -/
theorem Changes.context {s t : State} (h : Changes s t) (j : JunctionId) (f : Junction → Junction)
    (hmove : ContextMove t.policy (junctionAt t j) (f (junctionAt t j))) : Changes s (onJunction j f t) := by
  refine h.tail (.contexts (fun k => ?_) rfl)
  rw [junctionAt_onJunction]
  split
  · next hk => subst hk; exact hmove
  · exact .refl ..

/-- A change of one junction's context outside its clock and its recovery state. -/
theorem Changes.table {s t : State} (h : Changes s t) (j : JunctionId) {f : Junction → Junction}
    (hf : ∀ c, watched (f c) = watched c := by exact fun _ => rfl) : Changes s (onJunction j f t) := h.context j f (.of_watched (hf _))

/-- Two changes of one junction are one. -/
theorem onJunction_onJunction (j : JunctionId) (f g : Junction → Junction) (s : State) :
    onJunction j g (onJunction j f s) = onJunction j (fun c => g (f c)) s := by
  simp [onJunction, junctionAt]

theorem onJunction_id (j : JunctionId) (s : State) : onJunction j (fun c => c) s = s := by
  simp [onJunction, junctionAt]

/-! ### Notices, the evaluation queue, records -/

section

variable {s t : State} (h : Changes s t)
include h

theorem Changes.raised (c : Category) : Changes s (raise c t) := by
  refine h.tail (.notices (fun k => ?_) rfl)
  rw [notices_raise]
  split
  · exact .raised rfl
  · exact .kept rfl rfl

theorem Changes.raisedIf (b : Bool) (c : Category) : Changes s (raiseIf b c t) := by
  cases b
  · exact h
  · exact h.raised c

theorem Changes.enqueued (i : SlotId) : Changes s (enqueue i t) := h.tail (.enqueued i)

theorem Changes.enqueuedAll (l : List SlotId) : Changes s (enqueueAll l t) := by
  unfold enqueueAll
  induction l generalizing t with
  | nil => exact h
  | cons i l ih => exact ih (h.enqueued i)

theorem Changes.enqueuedSlots (p : SlotId → Record → Bool) : Changes s (enqueueSlots p t) := h.enqueuedAll _

theorem Changes.enqueuedWhere (p : Record → Bool) : Changes s (enqueueWhere p t) := h.enqueuedAll _

/-- A change of one record. -/
theorem Changes.onRecord (i : SlotId) (f : Record → Record)
    (hf : ∀ r, recordAt t i = some r → RecordMove (inFlight t i) r (f r)) : Changes s (onRecord i f t) := by
  refine h.tail (.records (fun k => ?_) rfl)
  by_cases hk : i = k
  · subst hk
    cases hr : recordAt t i with
    | none =>
      have hr' : (slotAt t i).record = none := hr
      exact .kept (by rw [slotAt_onRecord, if_pos rfl, hr', Option.map_none, ← hr'])
    | some r =>
      have hr' : (slotAt t i).record = some r := hr
      exact .record r (f r) hr (hf r hr) (by rw [slotAt_onRecord, if_pos rfl, hr']; rfl)
  · exact .kept (by rw [slotAt_onRecord, if_neg hk])

/-- A change of every record that meets a test. -/
theorem Changes.onRecordsWhere (p : Record → Bool) (f : Record → Record) (hf : ∀ b r, RecordMove b r (f r)) :
    Changes s (onRecordsWhere p f t) := by
  refine h.tail (.records (fun k => ?_) rfl)
  cases hr : recordAt t k with
  | none =>
    have hr' : (slotAt t k).record = none := hr
    exact .kept (by rw [slotAt_onRecordsWhere, hr', Option.map_none, ← hr'])
  | some r =>
    have hr' : (slotAt t k).record = some r := hr
    by_cases hp : p r = true
    · exact .record r (f r) hr (hf _ r) (by rw [slotAt_onRecordsWhere, hr', Option.map_some, if_pos hp])
    · exact .kept (by rw [slotAt_onRecordsWhere, hr', Option.map_some, if_neg hp, ← hr'])

/-! ### The directive queue -/

theorem Changes.aside {u : State}
    (hu : { u with
      directives := t.directives, transmitter := t.transmitter, port := t.port, spiDriven := t.spiDriven,
      cursor := t.cursor, masterEnable := t.masterEnable, freeCount := t.freeCount } = t := by rfl) : Changes s u :=
  h.tail (.aside hu)

theorem Changes.transmitted (now : Time) : Changes s (transmitNext now t) := by
  refine h.aside ?_
  unfold transmitNext
  repeat' split
  all_goals rfl

theorem Changes.queuedDirective (now : Time) (j : JunctionId) (k : DirectiveKind) (tag : Byte) :
    Changes s (queueDirective now j k tag t) := h.aside.transmitted now

theorem Changes.queuedRelease (now : Time) (j : JunctionId) (tag : Byte) : Changes s (queueRelease now j tag t) := by
  unfold queueRelease
  split
  · exact h.aside
  · exact (h.table j).queuedDirective ..

theorem Changes.droppedWaiting (j : JunctionId) (p : DirectiveKind → Bool) : Changes s (dropWaiting j p t) := h.aside

theorem Changes.withdrawn (j : JunctionId) (p : DirectiveKind → Bool) : Changes s (withdraw j p t) := by
  unfold withdraw
  split
  · exact (h.droppedWaiting j p).table j
  · exact h

/-! ### The candidate order and the issue check -/

theorem Changes.onOrder (j : JunctionId) (f : List SlotId → List SlotId) : Changes s (onOrder j f t) :=
  h.table j

theorem Changes.inserted (j : JunctionId) (i : SlotId) : Changes s (insertCandidate j i t) := h.onOrder j _

theorem Changes.removed (j : JunctionId) (i : SlotId) : Changes s (removeCandidate j i t) := h.onOrder j _

theorem Changes.moved (j : JunctionId) (i : SlotId) : Changes s (moveCandidate j i t) := h.onOrder j _

theorem Changes.walked (now : Time) (j : JunctionId) (l : List SlotId) : Changes s (walkOrder now j l t).1 := by
  induction l generalizing t with
  | nil => exact h
  | cons i l ih =>
    unfold walkOrder
    split
    · exact ih h
    · split
      · exact ih h
      · split
        · exact ih ((h.onRecord i _ fun r _ => .status r.status true).enqueued i)
        · exact h

theorem Changes.offered (now : Time) (j : JunctionId) (i : SlotId) (o : OfferTerms) :
    Changes s (makeOffer now j i o t) :=
  (((h.removed j i).onRecord i _ fun r _ => .status _ r.refreshWanted).table j).queuedDirective ..

theorem Changes.checked (now : Time) (j : JunctionId) : Changes s (issueCheck now j t) := by
  unfold issueCheck
  dsimp only
  split
  · split
    · exact h.walked now j _
    · split
      · exact (h.walked now j _).offered ..
      · exact h.walked now j _
  · exact h

/-! ### Grants and answers -/

theorem Changes.clearedGrant (j : JunctionId) : Changes s (clearGrant j t) := h.table j

theorem Changes.clearedOutstanding (j : JunctionId) : Changes s (clearOutstanding j t) := h.table j

theorem Changes.releasedGrant (now : Time) (j : JunctionId) (g : Grant) : Changes s (releaseGrant now j g t) := by
  unfold releaseGrant
  split
  · exact (h.queuedRelease now j _).context j _ (contextMove_adjustBy ..)
  · exact h

theorem Changes.endedAccepted (now : Time) (j : JunctionId) (g : Grant) (release : Bool) (served : Option Half)
    {leave : State → State} (hleave : ∀ u, Changes s u → Changes s (leave u)) :
    Changes s (endAccepted now j g release served leave t) := by
  have hreleased : Changes s (if release then releaseGrant now j g t else t) := by
    split
    · exact h.releasedGrant now j g
    · exact h
  have hlocked := hreleased.context j
    (fun c => { c with lockout := (if release then releaseGrant now j g t else t).policy.lockoutCycles })
    ⟨.kept rfl, .inl rfl, .inr rfl, .inl rfl⟩
  unfold endAccepted
  dsimp only
  cases served with
  | none => exact ((hleave _ hlocked).enqueuedWhere _).clearedGrant j
  | some v => exact ((hleave _ (hlocked.table j)).enqueuedWhere _).clearedGrant j

theorem Changes.endedOffered (j : JunctionId) : Changes s (endOffered j t) := (h.withdrawn j _).clearedGrant j

theorem Changes.returnedHolder (j : JunctionId) (i : SlotId) : Changes s (returnHolder j i t) := by
  unfold returnHolder
  split
  · exact h
  · split
    · exact (h.onRecord i _ fun _ _ => .status ..).inserted j i
    · exact h.onRecord i _ fun _ _ => .status ..

theorem Changes.handedBack (j : JunctionId) (g : Grant) (c : Category) : Changes s (handBack j g c t) :=
  ((((h.droppedWaiting j _).clearedGrant j).returnedHolder j g.slot).enqueued g.slot).clearedOutstanding j |>.raised c

theorem Changes.vacated (i : SlotId) : Changes s (onSlot i vacate (dequeue i t)) := h.tail (.vacated i)

theorem Changes.holderRetired (now : Time) (j : JunctionId) (v : Half) (o : RetireOutcome) :
    Changes s (holderRetired now j v o t) := by
  unfold Machine.holderRetired
  split
  · exact h
  · split
    · exact h.endedAccepted now j _ _ _ fun _ hu => hu
    · exact h.endedOffered j

theorem Changes.retired (now : Time) (i : SlotId) (o : RetireOutcome) : Changes s (retire now i o t) := by
  unfold retire
  split
  · exact h
  · split
    · exact ((h.removed _ i).vacated i).checked ..
    · exact ((h.holderRetired ..).vacated i).checked ..
    · exact h.vacated i

theorem Changes.retiredKey (now : Time) (v : Half) (b : Byte) (o : RetireOutcome) : Changes s (retireKey now v b o t) := by
  unfold retireKey
  split
  · exact h.retired ..
  · exact h

theorem Changes.acceptedGrant (now : Time) (j : JunctionId) (g : Grant) : Changes s (acceptGrant now j g t) :=
  ((h.context j (fun c => adjustBy (acceptChange g) { c with grant := some { g with accepted := true } })
    ⟨.kept rfl, .inl rfl, .inl le_rfl, .inr (clamp_mem (by decide) _)⟩).enqueuedSlots _).clearedOutstanding j |>.checked now j

theorem Changes.acceptAnswered (now : Time) (j : JunctionId) (tag : Byte) : Changes s (acceptAnswer now j tag t) := by
  unfold acceptAnswer
  split
  · exact ((h.context j _ (contextMove_adjustBy ..)).clearedOutstanding j).checked now j
  · exact h.acceptedGrant ..
  · exact (((h.queuedRelease now j tag).clearedOutstanding j).raised _).checked now j
  · split
    · exact h.raised _
    · exact (h.queuedRelease now j tag).raised _

theorem Changes.declineAnswered (now : Time) (j : JunctionId) (tag : Byte) : Changes s (declineAnswer now j tag t) := by
  unfold declineAnswer
  split
  · exact (h.clearedOutstanding j).checked now j
  · exact (h.handedBack j _ _).checked now j
  · exact ((h.clearedOutstanding j).raised _).checked now j
  · exact h.raised _

theorem Changes.answerTimedOut (now : Time) (j : JunctionId) : Changes s (answerTimeout now j t) := by
  unfold answerTimeout
  split
  · exact h.clearedOutstanding j
  · split
    · exact (h.handedBack j _ _).checked now j
    · exact ((h.clearedOutstanding j).raised _).checked now j

/-! ### CORRIDOR_CLEAR -/

theorem Changes.foldl {α : Type} {f : State → α → State} (hf : ∀ u a, Changes s u → Changes s (f u a)) (l : List α) :
    Changes s (l.foldl f t) := by
  induction l generalizing t with
  | nil => exact h
  | cons a l ih => exact ih (hf t a h)

theorem Changes.clearedAccepted (now : Time) (j : JunctionId) : Changes s (clearAccepted now j t) := by
  unfold clearAccepted
  split
  · exact (h.releasedGrant ..).clearedGrant j
  · exact h

theorem Changes.clearedOffered (j : JunctionId) : Changes s (clearOffered j t) := by
  unfold clearOffered
  split
  · exact h.endedOffered j
  · exact h

/-- Every candidate order emptied (R89). -/
theorem Changes.emptiedOrders : Changes s { t with junctions := t.junctions.map emptyOrder } := by
  refine h.tail (.contexts (fun k => .of_watched ?_) rfl)
  simp only [junctionAt, Fin.getElem_fin, Vector.getElem_map]
  rfl

/-- The request table, the orders, the evaluation queue and the passage table emptied (R168). -/
theorem Changes.emptiedTable : Changes s (emptiedTable t) :=
  ((h.emptiedOrders.tail .cleared).tail (.passagesDropped [] (List.nil_sublist _))).aside

theorem Changes.corridorCleared (now : Time) : Changes s (corridorClear now t) := by
  rw [corridorClear_eq]
  exact ((h.foldl (fun _ j hu => hu.clearedAccepted now j) _).foldl (fun _ j hu => hu.clearedOffered j) _).emptiedTable

/-! ### Evaluations -/

theorem Changes.startedEvaluation (now : Time) : Changes s (startEvaluation now t) := by
  unfold startEvaluation
  split
  · next i rest hidle hq =>
    split
    · next r hr => exact h.tail (.started i rest r now hidle hq hr)
    · exact h.tail (.shortened rest (by rw [hq]; exact List.sublist_cons_self ..))
  · exact h

theorem Changes.followedOrder (i : SlotId) (before : Record) (after : RecordState) (score : Nat) :
    Changes s (followOrder i before after score t) := by
  unfold followOrder
  split
  · split
    · exact h
    · exact h.moved ..
  · exact h.removed ..
  · exact h.inserted ..
  · exact h

theorem Changes.settledState (i : SlotId) (r : Record) (f : Reads) (e : EvalResult) :
    Changes s (settleState i r f e t) := by
  have hfollowed := (h.onRecord i (fun x => { x with status := completedState (junctionAt t r.junction) r.cls f e })
    fun x _ => .status _ x.refreshWanted).followedOrder i r (completedState (junctionAt t r.junction) r.cls f e)
      (completedScore r.cls e)
  unfold settleState
  dsimp only
  split
  · exact hfollowed.enqueued i
  · exact hfollowed

end

/-- What a completion does once its results are stored (R80, R98, R115). -/
theorem changes_storeResult {s u : State} (now : Time) (i : SlotId) (r : Record) (f : Reads) (e : EvalResult)
    (h : Changes s (onRecord i (stored e) u)) : Changes s (storeResult now i r f e u) := by
  have hsettled := h.settledState i r f e
  unfold storeResult
  dsimp only
  split
  · split
    · split
      · exact (h.endedAccepted now _ _ _ _ fun _ hu => (hu.settledState ..).enqueued i).checked now _
      · exact h
    · exact h
  · split
    · exact hsettled.checked now _
    · exact hsettled

theorem changes_completeEvaluation (now : Time) (s : State) : Changes s (completeEvaluation now s) := by
  unfold completeEvaluation
  split
  · exact .refl s
  · next f hf =>
    dsimp only
    split
    · next hr => exact Change.changes (.lost f hf (.inl hr))
    · next r hr =>
      have hr : recordAt s f.slot = some r := hr
      split
      · next hgen => exact Change.changes (.lost f hf (.inr hgen))
      · next hgen =>
        split
        · exact (Change.changes (.restated f hf)).enqueued f.slot
        · next hchanged =>
          exact changes_storeResult now f.slot r f.reads _
            (Change.changes (.stored f r hf hr (not_not.mp hgen) (by simpa using hchanged)))

end Sys2Proof.Proofs

/-! What a command can change, continued: the junction clocks, the messages, the links, the port, and `exec`. -/

namespace Sys2Proof.Proofs

open Sys2Proof.Machine Sys2Proof.Safety Sys2Proof.Laws

/-! ### Junction clocks -/

theorem isLive_iff {c : Junction} : isLive c = true ↔ ∃ t, c.sync = .live t := by
  unfold isLive; cases c.sync <;> simp

theorem PlansMove.refl (c : Junction) : PlansMove c c := .kept rfl rfl

/-- A LIVE junction is not at DARK(LINK_LOST), so a frame regains nothing there (R7). -/
theorem regained_of_live {c : Junction} (h : isLive c = true) : regained c = c := by
  obtain ⟨t, ht⟩ := isLive_iff.mp h
  exact if_neg (by simp [ht])

theorem contextMove_renewed (p : Policy) (c : Junction) (t : Time) :
    ContextMove p c { regained c with liveness := some t } := by
  cases hlive : isLive c with
  | true => rw [regained_of_live hlive]; exact ⟨.renewed t rfl, .kept rfl rfl rfl⟩
  | false =>
    unfold regained
    split
    · exact ⟨.dark rfl (.kept rfl rfl), .kept rfl rfl rfl⟩
    · exact ⟨.dark hlive (.kept rfl rfl), .kept rfl rfl rfl⟩

/-- A context made DARK, whatever becomes of its plan slots at the adoption, its local mode and its link. -/
theorem contextMove_dark {p : Policy} {c c' : Junction} (hdark : isLive c' = false) (hplans : PlansMove c c')
    (hdebt : c'.debt = c.debt) (hlockout : c'.lockout = c.lockout) (hadjustment : c'.adjustment = c.adjustment) :
    ContextMove p c c' := ⟨.dark hdark hplans, .kept hdebt hlockout hadjustment⟩

section

variable {s t : State} (h : Changes s t)
include h

/-- A junction goes DARK, its local mode and its link having changed just before (R8, R9, R19). -/
theorem Changes.goneDark (now : Time) (j : JunctionId) (reason : DarkReason) (mode : Option LocalMode)
    (liveness : Option Time) :
    Changes s (goDark now j reason (onJunction j (fun c => { c with localMode := mode, liveness := liveness }) t)) := by
  unfold goDark
  rw [onJunction_onJunction]
  exact (((h.context j _ (contextMove_dark rfl (.kept rfl rfl) rfl rfl rfl)).raised _).droppedWaiting j _).onRecordsWhere
    _ _ fun _ r => .status _ r.refreshWanted

theorem Changes.wentDark (now : Time) (j : JunctionId) (reason : DarkReason) : Changes s (goDark now j reason t) := by
  have hdark := h.goneDark now j reason (junctionAt t j).localMode (junctionAt t j).liveness
  rwa [onJunction_congr (g := fun c => c) rfl, onJunction_id] at hdark

theorem Changes.setReason (j : JunctionId) (reason : DarkReason) : Changes s (setReason j reason t) :=
  h.context j _ (contextMove_dark rfl (.kept rfl rfl) rfl rfl rfl)

theorem Changes.renewed (j : JunctionId) : Changes s (renewLiveness j t) := h.context j _ (contextMove_renewed ..)

theorem Changes.lostLink (now : Time) (j : JunctionId) : Changes s (loseLink now j t) := by
  unfold loseLink
  dsimp only
  split
  · exact h.goneDark now j _ none none
  · rw [Machine.setReason, onJunction_onJunction]
    exact h.context j _ (contextMove_dark rfl (.kept rfl rfl) rfl rfl rfl)

theorem Changes.reportedMode (now : Time) (j : JunctionId) (m : LocalMode) : Changes s (reportMode now j m t) := by
  unfold reportMode
  dsimp only
  split
  · split
    · next hcoord => exact h.context j _ ⟨.coord (by rw [hcoord]; rfl), .kept rfl rfl rfl⟩
    · have hdark := h.goneDark now j .localMode (some m) (junctionAt t j).liveness
      rwa [onJunction_congr (g := fun c => { c with localMode := some m }) rfl] at hdark
  · rw [Machine.setReason, onJunction_onJunction]
    exact h.context j _ (contextMove_dark rfl (.kept rfl rfl) rfl rfl rfl)

/-- A junction that may enter LIVE with the plans a cycle start leaves it: R12's values, or DARK(LOCAL_MODE). -/
theorem Changes.triedToEnter (now : Time) (j : JunctionId) (count : Byte) {f : Junction → Junction}
    (hclock : clockOf (f (junctionAt t j)) = { clockOf (junctionAt t j) with
      activePlan := (f (junctionAt t j)).activePlan, stagedPlan := (f (junctionAt t j)).stagedPlan })
    (hplans : PlansMove (junctionAt t j) (f (junctionAt t j))) (hplan : (f (junctionAt t j)).activePlan.isSome = true)
    (hdebt : (f (junctionAt t j)).debt = (junctionAt t j).debt)
    (hlockout : (f (junctionAt t j)).lockout = (junctionAt t j).lockout)
    (hadjustment : (f (junctionAt t j)).adjustment = (junctionAt t j).adjustment)
    (hlink : (junctionAt t j).liveness.isSome = true) : Changes s (tryEnterLive now j count (onJunction j f t)) := by
  unfold tryEnterLive
  rw [junctionAt_onJunction_same]
  split
  · next hmode =>
    have hmode' : (junctionAt t j).localMode = some .coord := (congrArg ClockFields.localMode hclock).symm.trans hmode
    unfold enterLive
    rw [onJunction_onJunction]
    refine ((h.context j _ ⟨?_, .inr ?_, .inl ?_, .inr ?_⟩).enqueuedWhere _).checked now j
    · refine .entered hmode' hlink hplan ?_ (cycleLimit t.policy (cycleOf (f (junctionAt t j))) now) now ?_
      · cases hplans with
        | kept hactive hstaged => exact .kept hactive hstaged
        | adopted hactive hstaged => exact .adopted hactive hstaged
      · simp only [clockOf, ClockFields.mk.injEq] at hclock ⊢
        simp only [liveContext, hclock, and_self, onJunction_policy]
    all_goals simp [liveContext]
  · rw [Machine.setReason, onJunction_onJunction]
    exact h.context j _ (contextMove_dark rfl
      (by
        cases hplans with
        | kept hactive hstaged => exact .kept hactive hstaged
        | adopted hactive hstaged => exact .adopted hactive hstaged)
      hdebt hlockout hadjustment)

theorem Changes.markedFlight (j : JunctionId) : Changes s (markFlight j t) := by
  unfold markFlight
  split
  · split
    · next f hf hflying =>
      refine h.onRecord _ _ fun r _ => ?_
      split
      · exact .marked hflying
      · exact .status r.status r.refreshWanted
    · exact h
  · exact h

theorem Changes.endedForAdoption (j : JunctionId) : Changes s (endForAdoption j t) := by
  unfold endForAdoption
  split
  · exact (h.clearedGrant j).returnedHolder ..
  · exact h

theorem Changes.markedCandidates (j : JunctionId) : Changes s (markCandidates j t) :=
  h.foldl (fun _ _ hu => hu.onRecord _ _ fun r _ => .status r.status true) _

end

/-! ### The fields that the steps before an adoption leave -/

/-- A change of one junction that leaves its staged plan leaves every junction's. -/
theorem stagedPlan_onJunction {f : Junction → Junction} (hf : ∀ c, (f c).stagedPlan = c.stagedPlan) (j k : JunctionId)
    (s : State) : (junctionAt (onJunction j f s) k).stagedPlan = (junctionAt s k).stagedPlan := by
  rw [junctionAt_onJunction]; split <;> simp [hf]

theorem stagedPlan_withdraw (j : JunctionId) (p : DirectiveKind → Bool) (s : State) (k : JunctionId) :
    (junctionAt (withdraw j p s) k).stagedPlan = (junctionAt s k).stagedPlan := by
  unfold withdraw; split <;> simp [stagedPlan_onJunction]

theorem stagedPlan_returnHolder (j : JunctionId) (i : SlotId) (s : State) (k : JunctionId) :
    (junctionAt (returnHolder j i s) k).stagedPlan = (junctionAt s k).stagedPlan := by
  unfold returnHolder
  split
  · rfl
  · split <;> simp [insertCandidate, onOrder, stagedPlan_onJunction]

theorem stagedPlan_endForAdoption (j : JunctionId) (s : State) (k : JunctionId) :
    (junctionAt (endForAdoption j s) k).stagedPlan = (junctionAt s k).stagedPlan := by
  unfold endForAdoption
  split
  · simp [stagedPlan_returnHolder, clearGrant, stagedPlan_onJunction]
  · rfl

section

variable {s t : State} (h : Changes s t)
include h

theorem Changes.adopted (now : Time) (j : JunctionId) (count : Byte) {p : Plan}
    (hstaged : (junctionAt t j).stagedPlan = some p) (hlink : (junctionAt t j).liveness.isSome = true) :
    Changes s (adoptPlan now j count p t) := by
  unfold adoptPlan
  dsimp only
  refine Changes.triedToEnter ?_ now j count rfl (.adopted ?_ rfl) rfl rfl rfl rfl ?_
  · split
    · exact ((h.markedFlight j).withdrawn j _ |>.endedForAdoption j).markedCandidates j
    · exact h.markedFlight j
  · split <;> simp [stagedPlan_endForAdoption, stagedPlan_withdraw, hstaged]
  · split <;> simp [hlink]

/-! ### The next cycle, phase reports -/

theorem Changes.queuedTrim (now : Time) (j : JunctionId) : Changes s (queueTrim now j t) := by
  unfold queueTrim
  dsimp only
  split
  · exact (h.table j).queuedDirective ..
  · exact h

theorem Changes.cycled (now : Time) (j : JunctionId) (count : Byte) (hlive : isLive (junctionAt t j) = true) :
    Changes s (nextCycle now j count t) := by
  have hopened := (((h.context j (nextCycleContext t.policy now count)
      ⟨.cycled (cycleLimit t.policy (cycleOf (junctionAt t j)) now) now hlive rfl,
        .inr (clamp_mem (by decide) _), .inl (Nat.sub_le ..), .inr (by simp [nextCycleContext])⟩).raisedIf
    (beyondDebtLimit t.policy now (junctionAt t j)) .debtLimit).raisedIf
    (slips t.policy now count (junctionAt t j)) .syncSlip).queuedTrim now j |>.enqueuedWhere (ofJunction j)
  unfold nextCycle
  dsimp only
  split
  · exact hopened.checked now j
  · exact hopened

theorem Changes.mismatched (now : Time) (j : JunctionId) : Changes s (mismatch now j t) := by
  unfold mismatch
  split
  · exact h
  · split
    · exact h.wentDark ..
    · exact h.setReason ..

/-- A CYCLE_START of the active plan's id (R10, R12, R13). -/
theorem Changes.startedCycle (now : Time) (j : JunctionId) (count id : Byte)
    (hlink : (junctionAt t j).liveness.isSome = true) (hid : planIdOf (junctionAt t j).activePlan = some id) :
    Changes s (if isLive (junctionAt t j) then nextCycle now j count t else tryEnterLive now j count t) := by
  split
  · next hlive => exact h.cycled now j count hlive
  · have hplan : (junctionAt t j).activePlan.isSome = true := by
      cases hp : (junctionAt t j).activePlan with
      | none => simp [hp, planIdOf] at hid
      | some p => rfl
    have htried := h.triedToEnter now j count (f := fun c => c) rfl (.refl _) hplan rfl rfl rfl hlink
    rwa [onJunction_id] at htried

theorem Changes.cycleStarted (now : Time) (j : JunctionId) (count id : Byte)
    (hlink : (junctionAt t j).liveness.isSome = true) : Changes s (cycleStart now j count id t) := by
  unfold cycleStart
  dsimp only
  split
  · next p hp =>
    split
    · exact h.adopted now j count hp hlink
    · split
      · next hid => exact h.startedCycle now j count id hlink hid
      · exact h.mismatched now j
  · split
    · next hid => exact h.startedCycle now j count id hlink hid
    · exact h.mismatched now j

theorem Changes.setStep (now : Time) (j : JunctionId) (k : Nat) (hk : k < (activeSteps (junctionAt t j)).length) :
    Changes s (setStep now j k t) := h.context j _ ⟨.stepped k now hk rfl, .kept rfl rfl rfl⟩

theorem Changes.progressed (now : Time) (j : JunctionId) (ends : GrantKind) (phase : Byte) :
    Changes s (progress now j ends phase t) := by
  unfold progress
  split
  · exact (h.endedAccepted now j _ _ _ fun _ hu => (hu.onRecord _ _ fun r _ => .status _ r.refreshWanted).enqueued _).checked
      now j
  · exact h

end

/-- The step a phase report names is a step of the plan. -/
theorem lt_of_stepOfPhase {c : Junction} {phase : Byte} {k : Nat} (h : stepOfPhase c phase = some k) :
    k < (activeSteps c).length := (List.findIdx?_eq_some_iff_getElem.mp h).1

theorem stepAfter_lt {c : Junction} {k : Nat} (h : k < (activeSteps c).length) :
    stepAfter c k < (activeSteps c).length := by
  unfold stepAfter; split <;> omega

section

variable {s t : State} (h : Changes s t)
include h

theorem Changes.phaseStarted (now : Time) (j : JunctionId) (phase : Byte) : Changes s (phaseStart now j phase t) := by
  unfold phaseStart
  dsimp only
  split
  · split
    · exact h.raised _
    · next k hk => exact ((h.setStep now j k (lt_of_stepOfPhase hk)).raisedIf _ _).progressed ..
  · exact h

theorem Changes.phaseEnded (now : Time) (j : JunctionId) (phase : Byte) : Changes s (phaseEnd now j phase t) := by
  unfold phaseEnd
  dsimp only
  split
  · split
    · exact h.raised _
    · next k hk => exact ((h.setStep now j _ (stepAfter_lt (lt_of_stepOfPhase hk))).raisedIf _ _).progressed ..
  · exact h

/-! ### Requests -/

theorem Changes.refreshedRecord (m : CheckInMsg) (k : CheckedKey) (i : SlotId) (r : Record) :
    Changes s (refreshRecord m k i r t) := by
  have hrecord := h.onRecord i (Machine.refreshed t m k (inFlight t i)) fun _ _ => .refreshed ..
  unfold refreshRecord
  dsimp only
  split
  · exact ((hrecord.moved ..).enqueued i).checked ..
  · exact hrecord.enqueued i

theorem Changes.update (m : UpdateMsg) : Changes s (update m t) := by
  unfold Machine.update
  split
  · exact h.raised _
  · split
    · exact h
    · split
      · exact (h.onRecord _ _ fun _ _ => .updated ..).enqueued _
      · exact h

theorem Changes.forcedRecord (now : Time) (i : SlotId) (r : Record) : Changes s (forceRecord now i r t) := by
  have hrecord := h.onRecord i (fun r => { r with cls := .forced, score := 1023 }) fun _ _ => .forced
  unfold forceRecord
  dsimp only
  split
  · exact ((hrecord.moved ..).enqueued i).checked ..
  · exact hrecord.enqueued i

/-! ### Segments and passages -/

theorem Changes.enqueuedTied (k : SegmentId) : Changes s (enqueueTied k t) := h.enqueuedWhere _

theorem Changes.setSegment (k : SegmentId) (g : Segment) (hmove : SegmentMove t k g) :
    Changes s (setSegment k (some g) t) := h.tail (.segment k g hmove)

end

theorem segmentBounded_captured (p : Policy) (now : Time) (sample : Int) {g : Segment} (h : SegmentBounded g) :
    SegmentBounded (captured p now sample g) := by
  obtain ⟨hends, hlength, htmin, htcap, htnom, -, -, -⟩ := h
  refine ⟨hends, hlength, htmin, htcap, htnom, ?_, Nat.zero_le _, Nat.zero_le _⟩
  have hclamp := clamp_mem (show (g.tmin : Int) ≤ g.tcap by omega)
    (g.estimate + Int.tdiv (sample - g.estimate) 4)
  have hsmooth := Int.toNat_of_nonneg (show 0 ≤ clamp g.tmin g.tcap (g.estimate + Int.tdiv (sample - g.estimate) 4) by omega)
  show g.tmin ≤ smoothed g sample ∧ smoothed g sample ≤ g.tcap
  unfold smoothed
  omega

section

variable {s t : State} (h : Changes s t)
include h

theorem Changes.tookSample (now : Time) (k : SegmentId) (sample : Int) {g : Segment} (hg : segmentAt t k = some g) :
    Changes s (takeSample now k sample g t) := by
  have hset := h.setSegment k (captured t.policy now sample g)
    (.moved g hg rfl rfl (segmentBounded_captured t.policy now sample))
  unfold takeSample
  dsimp only
  split
  · exact hset
  · exact hset.enqueuedTied k

theorem Changes.tookOverrun (k : SegmentId) {g : Segment} (hg : segmentAt t k = some g) :
    Changes s (takeOverrun k g t) := by
  unfold takeOverrun
  split
  · next d hd =>
    split
    · next hlow =>
      refine h.setSegment k _ (.moved g hg (by rfl) (by rfl) ?_)
      rintro ⟨hends, hlength, htmin, htcap, htnom, hestimate, -, -⟩
      exact ⟨hends, hlength, htmin, htcap, htnom, hestimate, by simp only; omega, by simp only [hd]; omega⟩
    · refine ((h.setSegment k _ (.moved g hg (by rfl) (by rfl) ?_)).raised _).enqueuedTied k
      rintro ⟨hends, hlength, htmin, htcap, htnom, hestimate, -, -⟩
      exact ⟨hends, hlength, htmin, htcap, htnom, ⟨htmin.2, le_rfl⟩, le_rfl, rfl, rfl⟩
  · exact h
  · next hstale =>
    refine h.setSegment k _ (.moved g hg (by rfl) (by rfl) ?_)
    rintro ⟨hends, hlength, htmin, htcap, htnom, hestimate, -, -⟩
    exact ⟨hends, hlength, htmin, htcap, htnom, hestimate, Nat.min_le_left .., by simp only [hstale]⟩

theorem Changes.handedSample (now : Time) (i j : JunctionId) (sample : Int) :
    Changes s (handSample now i j sample t) := by
  unfold handSample
  split
  · exact h
  · split
    · exact h
    · next g hg =>
      split
      · exact h.tookSample now _ sample hg
      · exact h.tookOverrun _ hg

theorem Changes.passed (now : Time) (v : Half) (j : JunctionId) : Changes s (passageAt now v j t) := by
  unfold passageAt
  split
  · next hreal =>
    refine Changes.tail ?_ (.passageWritten _ hreal)
    split
    · split
      · exact h
      · exact h.handedSample ..
    · exact h
  · exact h

theorem Changes.wentStale (k : SegmentId) {g : Segment} (hg : segmentAt t k = some g) : Changes s (goStale k g t) := by
  refine (h.setSegment k _ (.moved g hg (by rfl) (by rfl) ?_)).enqueuedTied k
  rintro ⟨hends, hlength, htmin, htcap, htnom, hestimate, hstreak, -⟩
  exact ⟨hends, hlength, htmin, htcap, htnom, hestimate, hstreak, trivial⟩

/-! ### The links -/

theorem Changes.contentDelivered (j : JunctionId) (m : JunctionMsg) (hlink : (junctionAt t j).liveness.isSome = true) :
    Changes s (deliverContent j m t) := by
  cases m with
  | status b mode =>
    simp only [deliverContent, deliverStatus]
    split
    · exact h.reportedMode ..
    · exact h.raised _
  | cycleStart b count id => exact h.cycleStarted _ j count id hlink
  | phaseStart b phase => exact h.phaseStarted ..
  | phaseEnd b phase => exact h.phaseEnded ..
  | passage b q v => exact (h.retiredKey ..).passed ..
  | accept b tag => exact h.acceptAnswered ..
  | decline b tag reason => exact h.declineAnswered ..

theorem Changes.junctionDelivered (m : JunctionMsg) : Changes s (deliverJunction m t) := by
  unfold deliverJunction
  split
  · exact h.raised _
  · next j hj => exact (h.renewed j).contentDelivered j m (by simp [renewLiveness])

theorem Changes.assembled (link : Link) (a : Assembler)
    (ha : AssemblerSound link (assemblerOf t link) → AssemblerSound link a) : Changes s (setAssembler link a t) :=
  h.tail (.assembled link a ha)

theorem Changes.hunted (link : Link) : Changes s (setAssembler link .hunt t) := h.assembled link _ fun _ => trivial

theorem Changes.discardedFrame (link : Link) : Changes s (discardFrame link t) := (h.hunted link).raised _

theorem Changes.reportedSent (now : Time) (j : JunctionId) (tag : Byte) : Changes s (reportSent now j tag t) :=
  h.context j _ (.of_watched (by split <;> rfl))

theorem Changes.sent (now : Time) : Changes s (sentEvent now t) := by
  have hfreed : ∀ l, Changes s { t with directives := l, transmitter := none } := fun _ => h.aside
  unfold sentEvent
  split
  · exact h
  · dsimp only
    split
    · exact (hfreed _).transmitted now
    · split
      · exact ((hfreed _).table _).transmitted now
      · exact (((hfreed _).reportedSent ..).transmitted now).checked ..

end

/-! ### CHECK_IN, which may create a record -/

/-- A run of elementary changes, or the creation of a record. -/
def ChangesOrCreates (s t : State) : Prop := Changes s t ∨ Creates s t

theorem vacantSlot_spec {s : State} {i : SlotId} (h : vacantSlot s = some i) : recordAt s i = none := by
  simpa using List.find?_some h

theorem realVehicle_of_checkCheckIn {s : State} {m : CheckInMsg} {k : CheckedKey} (h : checkCheckIn s m = some k) :
    realVehicle m.vehicle = true := by
  unfold checkCheckIn at h
  by_contra hreal
  simp [hreal] at h

theorem keyFree_of_findKey {s : State} {m : CheckInMsg} {k : CheckedKey} (hk : checkCheckIn s m = some k)
    (h : findKey s m.vehicle m.junction = none) : KeyFree s m.vehicle k.junction := by
  obtain ⟨-, hjunction, -⟩ := (checkCheckIn_eq_some_iff s m k.junction k.approach).mp hk
  rw [findKey, if_pos (realVehicle_of_checkCheckIn hk)] at h
  rintro i r hr ⟨hvehicle, hj⟩
  exact List.find?_eq_none.mp h i (List.mem_finRange i)
    ((any_hasKey_iff s i m.vehicle m.junction).mpr ⟨r, hr, hvehicle, by rw [hj, hjunction]⟩)

section

variable {s t : State} (h : Changes s t) (hslots : t.slots = s.slots) (hflight : t.flight = s.flight)
include h hslots hflight

theorem changesOrCreates_checkIn (m : CheckInMsg) : ChangesOrCreates s (checkIn m t) := by
  unfold checkIn
  split
  · exact .inl (h.raised _)
  · next k hk =>
    split
    · next hkey =>
      unfold createRecord
      split
      · next i hi =>
        exact .inr ⟨t, m, k, i, h, hslots, hflight, vacantSlot_spec hi, realVehicle_of_checkCheckIn hk,
          keyFree_of_findKey hk hkey, rfl⟩
      · exact .inl (h.raised _)
    · split
      · exact .inl (h.refreshedRecord ..)
      · exact .inl h

theorem changesOrCreates_deliverDetection (m : DetectionMsg) : ChangesOrCreates s (deliverDetection m t) := by
  cases m with
  | checkIn c => exact changesOrCreates_checkIn h hslots hflight c
  | update u => exact .inl (h.update u)
  | checkOut v b => exact .inl (h.retiredKey ..)
  | cancel v b => exact .inl (h.retiredKey ..)

end

/-! ### The bytes of a link (R150) -/

theorem byteAt_append_of_lt {l l' : List Byte} {i : Nat} (h : i < l.length) : byteAt (l ++ l') i = byteAt l i := by
  simp [byteAt, List.getElem?_append_left h]

/-- The body length and the kind of a frame in progress stay as further bytes are taken. -/
theorem takenLength_append {l : List Byte} (l' : List Byte) (h : 0 < l.length) :
    takenLength (l ++ l') = takenLength l := by rw [takenLength, byteAt_append_of_lt h, takenLength]

theorem changesOrCreates_deliverFrame (link : Link) (kind : Byte) (body : List Byte) (s : State) :
    ChangesOrCreates s (deliverFrame link kind body (setAssembler link .hunt s)) := by
  have hhunt := (Changes.refl s).hunted link
  unfold deliverFrame
  split
  · split
    · exact changesOrCreates_deliverDetection hhunt rfl rfl _
    · exact .inl hhunt
  · split
    · exact .inl (hhunt.junctionDelivered _)
    · exact .inl hhunt

theorem changesOrCreates_takeByte (link : Link) {phase : RxPhase} {taken : List Byte} {gap : Time} (b : Byte) (s : State)
    (hrx : assemblerOf s link = .receiving phase taken gap) : ChangesOrCreates s (takeByte link phase taken b s) := by
  have h := Changes.refl s
  unfold takeByte
  split
  · exact .inl (h.assembled link _ fun _ => rfl)
  · split
    · next hsize =>
      refine .inl (h.assembled link _ fun hsound => ?_)
      rw [hrx] at hsound
      have hone : taken.length = 1 := hsound
      have hkind : byteAt (taken ++ [b]) 1 = b := by
        obtain ⟨x, rfl⟩ := List.length_eq_one_iff.mp hone
        rfl
      split
      · next hzero =>
        refine ⟨?_, .inl ?_⟩
        · rw [hkind, takenLength_append _ (by omega), hsize]
        · rw [takenLength_append _ (by omega), List.length_append, List.length_singleton, hzero, hone]
      · next hpos =>
        refine ⟨?_, ?_, ?_⟩
        · rw [hkind, takenLength_append _ (by omega), hsize]
        · simp [hone]
        · rw [takenLength_append _ (by omega), List.length_append, List.length_singleton]
          omega
    · exact .inl (h.discardedFrame link)
  · refine .inl (h.assembled link _ fun hsound => ?_)
    rw [hrx] at hsound
    obtain ⟨hsize, htwo, hlt⟩ := hsound
    have hlength := takenLength_append [b] (show 0 < taken.length by omega)
    have hsize' : bodySize link (byteAt (taken ++ [b]) 1) = some (takenLength (taken ++ [b])) := by
      rw [byteAt_append_of_lt (by omega), hlength, hsize]
    split
    · next hlast => exact ⟨hsize', .inl (by rw [hlength, List.length_append]; exact hlast)⟩
    · next hlast =>
      exact ⟨hsize', by simp; omega, by rw [hlength, List.length_append, List.length_singleton]; omega⟩
  · split
    · next hfirst =>
      refine .inl (h.assembled link _ fun hsound => ?_)
      rw [hrx] at hsound
      obtain ⟨hsize, -⟩ := hsound
      have hlength := takenLength_append [b] (show 0 < taken.length by omega)
      refine ⟨by rw [byteAt_append_of_lt (by omega), hlength, hsize], .inr ?_⟩
      rw [hlength, List.length_append, List.length_singleton, hfirst]
    · unfold completeFrame
      dsimp only
      split
      · exact changesOrCreates_deliverFrame ..
      · exact .inl (h.discardedFrame link)

theorem changesOrCreates_receiveByte (link : Link) (b : Byte) (uartError : Bool) (s : State) :
    ChangesOrCreates s (receiveByte link b uartError s) := by
  have h := Changes.refl s
  unfold receiveByte
  split
  · split
    · exact .inl (h.assembled link _ fun _ => rfl)
    · exact .inl h
  · next phase taken gap hrx =>
    split
    · exact .inl (h.discardedFrame link)
    · exact changesOrCreates_takeByte link b s hrx

/-! ### The supervisor port -/

theorem policyBounded_policyOf {b : PolicyBody} (h : policyInRange b = true) : PolicyBounded (policyOf b) := by
  simp only [policyInRange, Bool.and_eq_true, decide_eq_true_eq] at h
  simp only [PolicyBounded, policyOf]
  omega

section

variable {s t : State} (h : Changes s t)
include h

theorem Changes.limitReset (now : Time) (j : JunctionId) : Changes s (resetCycleLimit now j t) := by
  unfold resetCycleLimit
  dsimp only
  split
  · next hlive =>
    split
    · exact h.wentDark ..
    · exact h.context j _ ⟨.limited _ hlive rfl, .kept rfl rfl rfl⟩
  · exact h

theorem Changes.planStaged (b : PlanBody) : Changes s (planStage b t).1 := by
  unfold planStage
  split
  · exact h
  · next j hj =>
    split
    · next hrange =>
      split
      · exact h
      · next hid =>
        refine h.context j (fun c => { c with stagedPlan := some (planOf b) }) ⟨.staged (planOf b) (planSound_planOf ((planInRange_iff b).mp hrange)) (fun q hq heq => ?_) rfl,
          .kept rfl rfl rfl⟩
        exact hid (by rw [Option.mem_def.mp hq]; exact congrArg some heq)
    · exact h

theorem Changes.segmentConfigured (b : SegmentBody) : Changes s (segmentSet b t).1 := by
  unfold segmentSet
  split
  · exact h
  · next k hk =>
    split
    · next i j hi hj =>
      split
      · exact h
      · next hdiffer =>
        split
        · next hrange =>
          split
          · exact h
          · next hfree =>
            refine (h.setSegment k _ (.configured ?_ fun m hm g hg hpair => ?_)).enqueuedTied k
            · obtain ⟨hlength, htmin, htcap, hle, htnom⟩ := (segmentInRange_iff b).mp hrange
              exact ⟨hdiffer, hlength, ⟨htmin.1, hle⟩, htcap, htnom, htnom, Nat.zero_le _, Nat.zero_le _⟩
            · exact hfree ((pairTaken_iff ..).mpr ⟨m, hm, g, hg, hpair⟩)
        · exact h
    · exact h

theorem Changes.noticeWritten (target action : Byte) (mask : Half) : Changes s (noticeWrite target action mask t).1 := by
  have hmasked : ∀ (f : Notice → Notice) (a : Answer), (∀ n, NoticeMove n (f n)) → Changes s (onMasked mask f t, a).1 := by
    intro f a hf
    refine h.tail (.notices (fun k => ?_) (onMasked_frame mask f t))
    rw [notices_onMasked]
    split
    · exact hf _
    · exact .kept rfl rfl
  unfold noticeWrite
  split
  · split
    · exact hmasked _ _ fun _ => .kept rfl rfl
    · split
      · exact hmasked _ _ fun _ => .raised rfl
      · split
        · exact h.aside
        · exact h
  · split
    · split
      · exact hmasked _ _ fun _ => .kept rfl rfl
      · split
        · exact hmasked _ _ fun _ => .cleared rfl rfl
        · split
          · exact h.aside
          · exact h
    · exact h

/-- A supervisor command's effect is a run of elementary changes. -/
theorem Changes.acted (c : Command) : Changes s (act c t).1 := by
  cases c with
  | planStage b => exact h.planStaged b
  | segmentSet b => exact h.segmentConfigured b
  | policySet b =>
    simp only [act, policySet]
    split
    · next hrange =>
      dsimp only
      exact (h.tail (.policy _ (policyBounded_policyOf hrange))).foldl (f := fun u j => resetCycleLimit t.time j u)
        (fun _ j hu => hu.limitReset _ j) _
    · exact h
  | junctionSuspend b =>
    simp only [act, junctionSuspend]
    split
    · dsimp only
      exact h.table _
    · exact h
  | junctionResume b =>
    simp only [act, junctionResume]
    split
    · exact (h.table _).checked ..
    · exact h
  | recordLookup n =>
    simp only [act, recordLookup]
    split
    · exact h
    · split
      · exact h.aside
      · exact h
  | recordRetire n =>
    simp only [act, recordRetire]
    split
    · exact h
    · exact h.retired ..
  | recordForce n =>
    simp only [act, recordForce]
    split
    · exact h
    · split
      · exact h.forcedRecord ..
      · exact h
  | listStart b =>
    simp only [act, listStart]
    split
    · exact h
    · exact h.aside
  | listContinue =>
    simp only [act, listContinue]
    split
    · exact h
    · split
      · exact h.aside
      · exact h.aside
  | noticeWrite a b m => exact h.noticeWritten a b m
  | corridorClear => exact h.corridorCleared _
  | planRead | segmentRead | policyRead | junctionQuery | noticeRead => exact h

theorem Changes.discardedCommand (n : Nat) : Changes s (discardCommand n t) :=
  (h.aside (u := driveZeros n t)).raised _

theorem Changes.tookCommand (n : Nat) (c : Command) : Changes s (takeCommand n c t) := by
  unfold takeCommand
  split
  · exact h.discardedCommand n
  · exact (h.acted c).aside

theorem Changes.readResponse (n : Nat) : Changes s (readResponse n t) := by
  refine h.aside ?_
  unfold Machine.readResponse
  dsimp only
  split <;> rfl

theorem Changes.madeReady : Changes s (makeReady t) := by
  refine h.aside ?_
  unfold makeReady
  split <;> rfl

theorem Changes.transacted (first : Byte) (rest : List Byte) : Changes s (transaction first rest t) := by
  unfold transaction
  split
  · split
    · exact h.tookCommand ..
    · exact h.discardedCommand _
  · split
    · exact h.readResponse _
    · exact Changes.raised h.aside _

end

/-! ### Every command -/

/-- A deadline's expiry is a run of elementary changes (R3). -/
theorem exists_next_of_due {now : Time} {deadline : Option Time} {f : Time → State} {s : State} (h : ∀ d, Changes s (f d)) :
    ∃ t, (match due now deadline with
        | some d => .next (f d)
        | none => .next s : Host.Outcome State Fault Refusal) = .next t ∧ Changes s t := by
  split
  · exact ⟨_, rfl, h _⟩
  · exact ⟨s, rfl, .refl s⟩

/-- Every command completes: POWER_ON and the tick aside, it is a run of elementary changes or creates a record. -/
theorem exec_changes (c : Instr) (s : State) (hpower : c ≠ .powerOn) (htick : c ≠ .corridorTimeTick) :
    ∃ t, exec c s = .next t ∧ ChangesOrCreates s t := by
  have h := Changes.refl s
  have hdetection : ∀ m, ChangesOrCreates s (deliverDetection m (setAssembler .detection .hunt s)) :=
    fun m => changesOrCreates_deliverDetection (h.hunted .detection) rfl rfl m
  cases c with
  | powerOn => exact absurd rfl hpower
  | corridorTimeTick => exact absurd rfl htick
  | checkIn m => exact ⟨_, rfl, hdetection _⟩
  | update m => exact ⟨_, rfl, hdetection _⟩
  | checkOut v b => exact ⟨_, rfl, hdetection _⟩
  | cancel v b => exact ⟨_, rfl, hdetection _⟩
  | badFrame link => exact ⟨_, rfl, .inl (h.discardedFrame link)⟩
  | gapDeadlineExpiry link =>
    exact (exists_next_of_due fun _ => h.discardedFrame link).imp fun _ => And.imp_right .inl
  | foreignJunctionFrame | status | cycleStart | phaseStart | phaseEnd | passage | accept | decline =>
    exact ⟨_, rfl, .inl ((h.hunted .junction).junctionDelivered _)⟩
  | livenessExpiry j => exact (exists_next_of_due fun d => h.lostLink d j).imp fun _ => And.imp_right .inl
  | cycleLimitExpiry j => exact (exists_next_of_due fun d => h.wentDark d j .noCycle).imp fun _ => And.imp_right .inl
  | recordExpiry i => exact (exists_next_of_due fun d => (h.retired d i .expired).raised _).imp fun _ => And.imp_right .inl
  | acceptDeadlineExpiry j => exact (exists_next_of_due fun d => h.answerTimedOut d j).imp fun _ => And.imp_right .inl
  | passageEntryExpiry v =>
    exact (exists_next_of_due fun _ => h.tail (.passagesDropped _ List.filter_sublist)).imp fun _ => And.imp_right .inl
  | staleDeadlineExpiry k =>
    simp only [exec, execStaleDeadlineExpiry]
    split
    · next g hg => exact (exists_next_of_due fun _ => h.wentStale k hg).imp fun _ => And.imp_right .inl
    · exact ⟨s, rfl, .inl h⟩
  | evaluationStart => exact ⟨_, rfl, .inl (h.startedEvaluation _)⟩
  | evaluationCompletion => exact ⟨_, rfl, .inl (changes_completeEvaluation _ s)⟩
  | sentEvent => exact ⟨_, rfl, .inl (h.sent _)⟩
  | linkByteReceived link b e => exact ⟨_, rfl, changesOrCreates_receiveByte link b e s⟩
  | commandFrameDiscarded first rest => exact ⟨_, rfl, .inl (h.transacted first rest)⟩
  | readTransaction n => exact ⟨_, rfl, .inl (h.readResponse n)⟩
  | responseReady => exact ⟨_, rfl, .inl h.madeReady⟩
  | _ => exact ⟨_, rfl, .inl (h.tookCommand ..)⟩

end Sys2Proof.Proofs

/-! The invariants of one part of the state, kept by every step: each is read off the elementary changes. -/

namespace Sys2Proof.Proofs

open Sys2Proof.Machine Sys2Proof.Safety Sys2Proof.Laws

/-! ### A step -/

/-- The state one decisecond later. -/
def ticked (s : State) : State := { s with time := s.time + 1 }

/-- Settles O1: a step is the match on the queue of commands. -/
theorem stepRunsTheFrontCommand : Obligations.StepRunsTheFrontCommand :=
  ⟨fun _ _ _ => rfl, fun s h => by simp only [step, h]⟩

theorem exec_cases {c : Instr} {s t : State} (h : exec c s = .next t) :
    (c = .powerOn ∧ t = poweredOn s) ∨ (c = .corridorTimeTick ∧ t = ticked s) ∨ ChangesOrCreates s t := by
  by_cases hpower : c = .powerOn
  · subst hpower; exact .inl ⟨rfl, (Host.Outcome.next.inj h).symm⟩
  by_cases htick : c = .corridorTimeTick
  · subst htick; exact .inr (.inl ⟨rfl, (Host.Outcome.next.inj h).symm⟩)
  · obtain ⟨u, hu, hchanges⟩ := exec_changes c s hpower htick
    obtain rfl := Host.Outcome.next.inj (hu.symm.trans h)
    exact .inr (.inr hchanges)

/-- A step idles on an empty queue, and otherwise takes its front command. -/
theorem step_cases {s t : State} (h : step s = .next t) :
    t = s ∨ ∃ c rest, s.pending = c :: rest ∧ exec c { s with pending := rest } = .next t := by
  unfold step at h
  split at h
  · exact .inl (Host.Outcome.next.inj h).symm
  · next c rest hq => exact .inr ⟨c, rest, hq, h⟩

/-- An invariant that power-on gives and the tick, every elementary change and the creation of a record keep is kept by
every step. -/
theorem step_keeps {P : State → Prop} (hqueue : ∀ s l, P s → P { s with pending := l }) (hpower : ∀ s, P (poweredOn s))
    (htick : ∀ s, P s → P (ticked s)) (hchange : ∀ s t, Change s t → P s → P t)
    (hcreate : ∀ s m k i, P s → recordAt s i = none → realVehicle m.vehicle = true →
      KeyFree s m.vehicle k.junction → P (onSlot i (fun sl => { sl with record := some (newRecord s m k) }) s))
    {s t : State} (hs : P s) (h : step s = .next t) : P t := by
  obtain rfl | ⟨c, rest, -, hexec⟩ := step_cases h
  · exact hs
  have hs' := hqueue s rest hs
  obtain ⟨-, rfl⟩ | ⟨-, rfl⟩ | hrun | ⟨u, m, k, i, hrun, -, -, hvacant, hreal, hkey, rfl⟩ := exec_cases hexec
  · exact hpower _
  · exact htick _ hs'
  · exact hrun.keeps hchange hs'
  · exact hchange _ _ (.enqueued i) (hcreate u m k i (hrun.keeps hchange hs') hvacant hreal hkey)

/-! ### Corridor time (R1, R2) -/

/-- An elementary change moves neither corridor time nor the queue of commands. -/
theorem Change.time_pending {s t : State} (h : Change s t) : t.time = s.time ∧ t.pending = s.pending := by
  cases h with
  | aside h | notices _ h | contexts _ h | records _ h => exact ⟨(congrArg State.time h :), (congrArg State.pending h :)⟩
  | enqueued => simp
  | assembled link => cases link <;> exact ⟨rfl, rfl⟩
  | _ => exact ⟨rfl, rfl⟩

theorem Changes.time_pending {s t : State} (h : Changes s t) : t.time = s.time ∧ t.pending = s.pending :=
  h.keeps (P := fun u => u.time = s.time ∧ u.pending = s.pending)
    (fun _ _ hstep ⟨htime, hpending⟩ => ⟨hstep.time_pending.1.trans htime, hstep.time_pending.2.trans hpending⟩) ⟨rfl, rfl⟩

theorem ChangesOrCreates.time_pending {s t : State} (h : ChangesOrCreates s t) :
    t.time = s.time ∧ t.pending = s.pending := by
  obtain h | ⟨u, m, k, i, hrun, -, -, -, -, -, rfl⟩ := h
  · exact h.time_pending
  · simpa using hrun.time_pending

theorem toNat_time_ticked (s : State) :
    (ticked s).time.toNat = if s.time.toNat = 4294967295 then 0 else s.time.toNat + 1 := by
  have := s.time.isLt
  have hadd : (ticked s).time.toNat = (s.time.toNat + 1) % 4294967296 := by simp [ticked, BitVec.toNat_add]
  rw [hadd]
  split <;> omega

/-- R2's difference: the number from -2^31 to 2^31 - 1 that is right modulo 2^32. -/
theorem timeDiff_spec (t1 t2 : Time) : -2147483648 ≤ timeDiff t1 t2 ∧ timeDiff t1 t2 ≤ 2147483647
    ∧ ∃ k : Int, timeDiff t1 t2 = (t1.toNat : Int) - t2.toNat + 4294967296 * k := by
  have h1 := t1.isLt
  have h2 := t2.isLt
  have hdiff : timeDiff t1 t2 = ((t1.toNat : Int) - t2.toNat).bmod 4294967296 := by
    rw [timeDiff, BitVec.toInt_sub, BitVec.toInt_eq_toNat_bmod, BitVec.toInt_eq_toNat_bmod]
    simp
  have hmod := Int.emod_add_mul_ediv ((t1.toNat : Int) - t2.toNat) 4294967296
  rw [hdiff, Int.bmod_def]
  split
  · exact ⟨by omega, by omega, -(((t1.toNat : Int) - t2.toNat) / 4294967296), by omega⟩
  · exact ⟨by omega, by omega, -(((t1.toNat : Int) - t2.toNat) / 4294967296) - 1, by omega⟩

theorem toNat_timeAdd (t : Time) (d : Nat) : (timeAdd t d).toNat = (t.toNat + d) % 4294967296 := by
  simp [timeAdd, BitVec.toNat_add]

/-- Settles O2: a command other than POWER_ON and the tick is a run of changes that each leave corridor time. -/
theorem everyCommandCompletesAndOnlyTheClockMovesTime : Obligations.EveryCommandCompletesAndOnlyTheClockMovesTime := by
  refine ⟨fun c s => ?_, fun s => ⟨ticked s, rfl, toNat_time_ticked s, rfl⟩, timeDiff_spec, toNat_timeAdd⟩
  by_cases hpower : c = .powerOn
  · exact ⟨poweredOn s, hpower ▸ rfl, rfl, fun _ => rfl, fun h => absurd hpower h⟩
  by_cases htick : c = .corridorTimeTick
  · exact ⟨ticked s, htick ▸ rfl, rfl, fun h => absurd h hpower, fun _ h => absurd htick h⟩
  · obtain ⟨t, ht, hrun⟩ := exec_changes c s hpower htick
    exact ⟨t, ht, hrun.time_pending.2, fun h => absurd h hpower, fun _ _ => hrun.time_pending.1⟩

/-! ### Notices (R166) -/

theorem Change.notices_move {s t : State} (h : Change s t) (k : Fin 12) : NoticeMove s.notices[k] t.notices[k] := by
  have hkept : ∀ {u : State}, u.notices = s.notices → NoticeMove s.notices[k] u.notices[k] := fun e => by
    rw [e]; exact .kept rfl rfl
  cases h with
  | notices hmove => exact hmove k
  | aside h | contexts _ h | records _ h => exact hkept (congrArg State.notices h :)
  | enqueued i => exact hkept (enqueue_notices i s)
  | assembled link => cases link <;> exact hkept rfl
  | _ => exact hkept rfl

theorem noticesCounted_change {s t : State} (h : Change s t) (hs : NoticesCounted s) : NoticesCounted t := by
  intro k
  obtain ⟨hle, hiff⟩ := hs k
  cases h.notices_move k with
  | kept hflag hcount => rw [hflag, hcount]; exact ⟨hle, hiff⟩
  | raised h => rw [h]; exact ⟨Nat.min_le_left .., by simp [raisedNotice]⟩
  | cleared hflag hcount => rw [hflag, hcount]; simp

theorem noticesCounted_poweredOn (s : State) : NoticesCounted (poweredOn s) := by
  intro k; rw [notices_poweredOn]; simp

/-! ### The policy and the recovery state (R15, R125, R164) -/

theorem Change.policy_move {s t : State} (h : Change s t) : t.policy = s.policy ∨ PolicyBounded t.policy := by
  cases h with
  | policy p hp => exact .inr hp
  | notices _ h | aside h | contexts _ h | records _ h => exact .inl (congrArg State.policy h :)
  | enqueued i => exact .inl (enqueue_policy i s)
  | assembled link => cases link <;> exact .inl rfl
  | _ => exact .inl rfl

theorem Change.context_move {s t : State} (h : Change s t) (j : JunctionId) :
    ContextMove s.policy (junctionAt s j) (junctionAt t j) := by
  have hkept : ∀ {u : State}, u.junctions = s.junctions → ContextMove s.policy (junctionAt s j) (junctionAt u j) :=
    fun e => by rw [junctionAt_congr e]; exact .refl ..
  cases h with
  | contexts hmove => exact hmove j
  | notices _ h | aside h | records _ h => exact hkept (congrArg State.junctions h :)
  | enqueued i => exact hkept (enqueue_junctions i s)
  | assembled link => cases link <;> exact hkept rfl
  | _ => exact hkept rfl

theorem recoveryBounded_change {s t : State} (h : Change s t) (hs : RecoveryBounded s) : RecoveryBounded t := by
  obtain ⟨hpolicy, hjunctions⟩ := hs
  refine ⟨?_, fun j => ?_⟩
  · obtain e | hp := h.policy_move
    · rwa [e]
    · exact hp
  · obtain ⟨hdebt, hlockout, hadjustment⟩ := hjunctions j
    obtain ⟨hd, hl, ha⟩ := (h.context_move j).recovery
    obtain ⟨-, -, -, -, -, -, -, -, hcycles, -⟩ := hpolicy
    refine ⟨?_, ?_, ?_⟩
    · omega
    · omega
    · omega

theorem policyBounded_default : PolicyBounded Policy.default := by
  simp [PolicyBounded, Policy.default]

theorem recoveryBounded_poweredOn (s : State) : RecoveryBounded (poweredOn s) := by
  refine ⟨policyBounded_default, fun j => ?_⟩
  rw [junctionAt_poweredOn]
  simp [Junction.reset]

/-- Settles O5: a notice is raised, cleared or left by every elementary change, and debt, lockout and adjustment are clamped,
counted down or set to K. -/
theorem stepKeepsTheNoticesAndTheRecoveryStateInRange : Obligations.StepKeepsTheNoticesAndTheRecoveryStateInRange := by
  refine ⟨fun s t hs h => ?_, fun s t hs h => ?_⟩
  · exact step_keeps (fun _ _ h => h) noticesCounted_poweredOn (fun _ h => h) (fun _ _ => noticesCounted_change)
      (fun _ _ _ _ h _ _ _ => h) hs h
  · exact step_keeps (fun _ _ h => h) recoveryBounded_poweredOn (fun _ h => h) (fun _ _ => recoveryBounded_change)
      (fun _ _ _ _ h _ _ _ => h) hs h

/-! ### The junction clocks (R7, R9, R12, R21, R22) -/

/-- A LIVE junction has all that its walk needs. -/
def RunsSound (c : Junction) : Prop :=
  c.localMode = some .coord ∧ c.liveness.isSome = true ∧ c.lastCycleStart.isSome = true ∧ c.stepStart.isSome = true
    ∧ c.activePlan.isSome = true ∧ ∃ k ∈ c.currentStep, k < (activeSteps c).length

/-- The plan slots of a junction hold sound plans of different ids. -/
def PlansSound (c : Junction) : Prop :=
  (∀ p ∈ c.activePlan, PlanSound p) ∧ (∀ p ∈ c.stagedPlan, PlanSound p)
    ∧ ∀ p ∈ c.activePlan, ∀ q ∈ c.stagedPlan, p.planId ≠ q.planId

theorem clocksSound_iff (s : State) : ClocksSound s ↔
    ∀ j, PlansSound (junctionAt s j) ∧ (isLive (junctionAt s j) = true → RunsSound (junctionAt s j)) :=
  forall_congr' fun _ => by simp only [PlansSound, RunsSound, and_assoc]

theorem plansSound_of_move {c c' : Junction} (h : PlansMove c c') (hc : PlansSound c) : PlansSound c' := by
  obtain ⟨hactive, hstaged, hdiffer⟩ := hc
  cases h with
  | kept ha hs => unfold PlansSound; rw [ha, hs]; exact ⟨hactive, hstaged, hdiffer⟩
  | adopted ha hs => unfold PlansSound; rw [ha, hs]; exact ⟨hstaged, by simp, by simp⟩

theorem activeSteps_congr {c c' : Junction} (h : c'.activePlan = c.activePlan) : activeSteps c' = activeSteps c := by
  simp only [activeSteps, h]

theorem isLive_congr {c c' : Junction} (h : c'.sync = c.sync) : isLive c' = isLive c := by simp only [isLive, h]

/-- A sound active plan has a first step. -/
theorem activeSteps_pos {c : Junction} (hplan : c.activePlan.isSome = true) (hc : PlansSound c) :
    0 < (activeSteps c).length := by
  obtain ⟨p, hp⟩ := Option.isSome_iff_exists.mp hplan
  obtain ⟨-, -, ⟨htwo, -⟩, -⟩ := hc.1 p hp
  simp only [activeSteps, hp, Option.map_some, Option.getD_some]
  omega

/-- A clock move keeps the plan slots sound and a LIVE junction ready for its walk. -/
theorem clockSound_of_move {c c' : Junction} (h : ClockMove c c') (hplans : PlansSound c)
    (hruns : isLive c = true → RunsSound c) : PlansSound c' ∧ (isLive c' = true → RunsSound c') := by
  cases h with
  | dark hdark hmove => exact ⟨plansSound_of_move hmove hplans, fun hlive => by simp [hdark] at hlive⟩
  | kept h =>
    simp only [clockOf, ClockFields.mk.injEq] at h
    obtain ⟨hsync, hmode, hactive, hstaged, hlink, hstart, hstep, hsince⟩ := h
    refine ⟨plansSound_of_move (.kept hactive hstaged) hplans, ?_⟩
    rw [isLive_congr hsync]
    unfold RunsSound
    rw [hmode, hlink, hstart, hsince, hactive, hstep, activeSteps_congr hactive]
    exact hruns
  | renewed t h =>
    simp only [clockOf, ClockFields.mk.injEq] at h
    obtain ⟨hsync, hmode, hactive, hstaged, hlink, hstart, hstep, hsince⟩ := h
    refine ⟨plansSound_of_move (.kept hactive hstaged) hplans, fun hlive => ?_⟩
    obtain ⟨h1, -, h3, h4, h5, h6⟩ := hruns (isLive_congr hsync ▸ hlive)
    unfold RunsSound
    rw [hmode, hlink, hstart, hsince, hactive, hstep, activeSteps_congr hactive]
    exact ⟨h1, rfl, h3, h4, h5, h6⟩
  | coord h =>
    simp only [clockOf, ClockFields.mk.injEq] at h
    obtain ⟨hsync, hmode, hactive, hstaged, hlink, hstart, hstep, hsince⟩ := h
    refine ⟨plansSound_of_move (.kept hactive hstaged) hplans, fun hlive => ?_⟩
    obtain ⟨-, h2, h3, h4, h5, h6⟩ := hruns (isLive_congr hsync ▸ hlive)
    unfold RunsSound
    rw [hmode, hlink, hstart, hsince, hactive, hstep, activeSteps_congr hactive]
    exact ⟨rfl, h2, h3, h4, h5, h6⟩
  | stepped k now hk h =>
    simp only [clockOf, ClockFields.mk.injEq] at h
    obtain ⟨hsync, hmode, hactive, hstaged, hlink, hstart, hstep, hsince⟩ := h
    refine ⟨plansSound_of_move (.kept hactive hstaged) hplans, fun hlive => ?_⟩
    obtain ⟨h1, h2, h3, -, h5, -⟩ := hruns (isLive_congr hsync ▸ hlive)
    unfold RunsSound
    rw [hmode, hlink, hstart, hsince, hactive, hstep, activeSteps_congr hactive]
    exact ⟨h1, h2, h3, rfl, h5, k, rfl, hk⟩
  | limited t hlive h =>
    simp only [clockOf, ClockFields.mk.injEq] at h
    obtain ⟨-, hmode, hactive, hstaged, hlink, hstart, hstep, hsince⟩ := h
    refine ⟨plansSound_of_move (.kept hactive hstaged) hplans, fun _ => ?_⟩
    unfold RunsSound
    rw [hmode, hlink, hstart, hsince, hactive, hstep, activeSteps_congr hactive]
    exact hruns hlive
  | cycled t now hlive h =>
    simp only [clockOf, ClockFields.mk.injEq] at h
    obtain ⟨-, hmode, hactive, hstaged, hlink, hstart, hstep, hsince⟩ := h
    refine ⟨plansSound_of_move (.kept hactive hstaged) hplans, fun _ => ?_⟩
    obtain ⟨h1, h2, -, -, h5, -⟩ := hruns hlive
    unfold RunsSound
    rw [hmode, hlink, hstart, hsince, hactive, hstep, activeSteps_congr hactive]
    exact ⟨h1, h2, rfl, rfl, h5, 0, rfl, activeSteps_pos h5 hplans⟩
  | entered hmode hlink hplan hmove t now h =>
    simp only [clockOf, ClockFields.mk.injEq] at h
    obtain ⟨-, hmode', -, -, hlink', hstart, hstep, hsince⟩ := h
    have hplans' := plansSound_of_move hmove hplans
    refine ⟨hplans', fun _ => ?_⟩
    unfold RunsSound
    rw [hmode', hlink', hstart, hsince, hstep]
    exact ⟨hmode, hlink, rfl, rfl, hplan, 0, rfl, activeSteps_pos hplan hplans'⟩
  | staged p hsound hid h =>
    simp only [clockOf, ClockFields.mk.injEq] at h
    obtain ⟨hsync, hmode, hactive, hstaged, hlink, hstart, hstep, hsince⟩ := h
    refine ⟨?_, ?_⟩
    · unfold PlansSound
      rw [hactive, hstaged]
      exact ⟨hplans.1, by simpa using hsound, fun q hq p' hp' => Option.some.inj hp' ▸ hid q hq⟩
    · rw [isLive_congr hsync]
      unfold RunsSound
      rw [hmode, hlink, hstart, hsince, hactive, hstep, activeSteps_congr hactive]
      exact hruns

theorem clocksSound_change {s t : State} (h : Change s t) (hs : ClocksSound s) : ClocksSound t := by
  rw [clocksSound_iff] at hs ⊢
  exact fun j => clockSound_of_move (h.context_move j).clock (hs j).1 (hs j).2

theorem clocksSound_poweredOn (s : State) : ClocksSound (poweredOn s) := by
  rw [clocksSound_iff]
  intro j
  rw [junctionAt_poweredOn]
  simp [PlansSound, Junction.reset, isLive]

theorem step_keeps_clocksSound {s t : State} (hs : ClocksSound s) (h : step s = .next t) : ClocksSound t :=
  step_keeps (fun _ _ h => h) clocksSound_poweredOn (fun _ h => h) (fun _ _ => clocksSound_change)
    (fun _ _ _ _ h _ _ _ => h) hs h

/-- Settles O6: every elementary change of a junction's clock keeps its plans sound and its walk supplied. -/
theorem stepKeepsTheClocksSound : Obligations.StepKeepsTheClocksSound := fun _ _ => step_keeps_clocksSound

/-! ### Segments, passages and assemblers (R137, R141, R150) -/

theorem segmentsBounded_setSegment {s : State} {k : SegmentId} {g : Segment} (h : SegmentMove s k g)
    (hs : SegmentsBounded s) : SegmentsBounded (setSegment k (some g) s) := by
  obtain ⟨hbounded, hunique⟩ := hs
  have hg : SegmentBounded g ∧ ∀ m, m ≠ k → ∀ x ∈ segmentAt s m, ¬(x.source = g.source ∧ x.target = g.target) := by
    cases h with
    | moved x hx hsource htarget h =>
      refine ⟨h (hbounded k x hx), fun m hm y hy hpair => hm ?_⟩
      exact hunique m k y hy x hx (hpair.1.trans hsource) (hpair.2.trans htarget)
    | configured h hfree => exact ⟨h, hfree⟩
  refine ⟨fun m x hx => ?_, fun m n x hx y hy hsource htarget => ?_⟩
  · rw [segmentAt_setSegment] at hx
    split at hx
    · exact Option.some.inj hx ▸ hg.1
    · exact hbounded m x hx
  · rw [segmentAt_setSegment] at hx hy
    split at hx <;> split at hy
    · next hm hn => exact hm.symm.trans hn
    · next hm hn =>
      obtain rfl := Option.some.inj hx
      exact absurd ⟨hsource.symm, htarget.symm⟩ (hg.2 n (Ne.symm hn) y hy)
    · next hm hn =>
      obtain rfl := Option.some.inj hy
      exact absurd ⟨hsource, htarget⟩ (hg.2 m (Ne.symm hm) x hx)
    · exact hunique m n x hx y hy hsource htarget

theorem segmentsBounded_change {s t : State} (h : Change s t) (hs : SegmentsBounded s) : SegmentsBounded t := by
  have hkept : ∀ {u : State}, u.segments = s.segments → SegmentsBounded u := fun e => by
    unfold SegmentsBounded; simp only [segmentAt_congr e]; exact hs
  cases h with
  | segment k g hmove => exact segmentsBounded_setSegment hmove hs
  | notices _ h | aside h | records _ h | contexts _ h => exact hkept (congrArg State.segments h :)
  | enqueued i => exact hkept (enqueue_segments i s)
  | assembled link => cases link <;> exact hkept rfl
  | _ => exact hkept rfl

/-- A list of passage entries within R141's bounds. -/
def EntriesBounded (l : List PassageEntry) : Prop :=
  l.length ≤ 48 ∧ (l.map PassageEntry.vehicle).Nodup ∧ ∀ e ∈ l, realVehicle e.vehicle = true

theorem entriesBounded_sublist {l l' : List PassageEntry} (h : l'.Sublist l) (hl : EntriesBounded l) :
    EntriesBounded l' := by
  obtain ⟨hlength, hnodup, hreal⟩ := hl
  exact ⟨h.length_le.trans hlength, hnodup.sublist (h.map _), fun e he => hreal e (h.subset he)⟩

theorem isSome_entryOf_iff {v : Half} {l : List PassageEntry} :
    (entryOf v l).isSome = true ↔ ∃ e ∈ l, e.vehicle = v := by simp [entryOf]

/-- A further entry of a vehicle that has none fits where fewer than 48 are held. -/
theorem entriesBounded_concat {l : List PassageEntry} {e : PassageEntry} (hl : EntriesBounded l) (hlength : l.length < 48)
    (hreal : realVehicle e.vehicle = true) (hnew : ∀ x ∈ l, x.vehicle ≠ e.vehicle) : EntriesBounded (l ++ [e]) := by
  obtain ⟨-, hnodup, hall⟩ := hl
  refine ⟨by simpa using hlength, ?_, ?_⟩
  · rw [List.map_append, List.nodup_append]
    refine ⟨hnodup, by simp, ?_⟩
    simpa using hnew
  · simp only [List.mem_append, List.mem_singleton]
    rintro x (hx | rfl)
    · exact hall x hx
    · exact hreal

theorem entriesBounded_writeEntry {e : PassageEntry} {l : List PassageEntry} (hreal : realVehicle e.vehicle = true)
    (hl : EntriesBounded l) : EntriesBounded (writeEntry e l) := by
  unfold writeEntry
  split
  · next hheld =>
    obtain ⟨x, hx, hv⟩ := isSome_entryOf_iff.mp hheld
    have hlt : (dropEntry e.vehicle l).length < l.length :=
      List.length_filter_lt_length_iff_exists.mpr ⟨x, hx, by simp [hv]⟩
    refine entriesBounded_concat (entriesBounded_sublist List.filter_sublist hl) (hlt.trans_le hl.1) hreal fun y hy => ?_
    simpa using (List.mem_filter.mp hy).2
  · next hnone =>
    have hnew : ∀ x ∈ l, x.vehicle ≠ e.vehicle := fun x hx hv => hnone (isSome_entryOf_iff.mpr ⟨x, hx, hv⟩)
    split
    · next hlt => exact entriesBounded_concat hl hlt hreal hnew
    · next hfull =>
      refine entriesBounded_concat (entriesBounded_sublist (List.drop_sublist 1 l) hl) ?_ hreal
        fun x hx => hnew x (List.mem_of_mem_drop hx)
      have := hl.1
      rw [List.length_drop]
      omega

theorem passagesBounded_change {s t : State} (h : Change s t) (hs : PassagesBounded s) : PassagesBounded t := by
  have hkept : ∀ {u : State}, u.passages = s.passages → PassagesBounded u := fun e => by
    unfold PassagesBounded; rw [e]; exact hs
  cases h with
  | passageWritten e hreal => exact entriesBounded_writeEntry hreal hs
  | passagesDropped l hl => exact entriesBounded_sublist hl hs
  | notices _ h | aside h | records _ h | contexts _ h => exact hkept (congrArg State.passages h :)
  | enqueued i => exact hkept (enqueue_passages i s)
  | assembled link => cases link <;> exact hkept rfl
  | _ => exact hkept rfl

theorem assemblersSound_change {s t : State} (h : Change s t) (hs : AssemblersSound s) : AssemblersSound t := by
  have hkept : ∀ {u : State}, u.detectionRx = s.detectionRx → u.junctionRx = s.junctionRx → AssemblersSound u :=
    fun e e' => by unfold AssemblersSound; rw [e, e']; exact hs
  cases h with
  | assembled link a ha =>
    cases link with
    | detection => exact ⟨ha hs.1, hs.2⟩
    | junction => exact ⟨hs.1, ha hs.2⟩
  | notices _ h | aside h | records _ h | contexts _ h =>
    exact hkept (congrArg State.detectionRx h :) (congrArg State.junctionRx h :)
  | enqueued i => exact hkept (enqueue_detectionRx i s) (enqueue_junctionRx i s)
  | _ => exact hkept rfl rfl

theorem segmentsBounded_poweredOn (s : State) : SegmentsBounded (poweredOn s) := by
  simp [SegmentsBounded, segmentAt_poweredOn]

/-- Settles O7: the segment table, the passage table and the assemblers are each kept by every elementary change. -/
theorem stepKeepsTheTablesAndAssemblersInRange : Obligations.StepKeepsTheTablesAndAssemblersInRange := by
  refine fun s t hsegments hpassages hassemblers h => ⟨?_, ?_, ?_⟩
  · exact step_keeps (fun _ _ h => h) segmentsBounded_poweredOn (fun _ h => h) (fun _ _ => segmentsBounded_change)
      (fun _ _ _ _ h _ _ _ => h) hsegments h
  · exact step_keeps (fun _ _ h => h) (fun _ => ⟨Nat.zero_le _, List.nodup_nil, by simp [poweredOn, State.reset]⟩)
      (fun _ h => h) (fun _ _ => passagesBounded_change) (fun _ _ _ _ h _ _ _ => h) hpassages h
  · exact step_keeps (fun _ _ h => h) (fun _ => ⟨trivial, trivial⟩) (fun _ h => h) (fun _ _ => assemblersSound_change)
      (fun _ _ _ _ h _ _ _ => h) hassemblers h

end Sys2Proof.Proofs

/-! What an evaluation works out: the bounds of its decision, its forecast and its score. -/

namespace Sys2Proof.Proofs

open Sys2Proof.Machine Sys2Proof.Safety Sys2Proof.Laws

/-! ### The decision's amount (R73, R74) -/

/-- A granted amount is at least the minimum, fits the slack, and is partial only where partial grants are allowed. -/
theorem grantAmount_fits {r : Reads} {need slack n : Nat} {p : Bool} (h : grantAmount r need slack = some (n, p)) :
    r.minGrant ≤ n ∧ n ≤ slack ∧ (p = true → r.partials = true) := by
  unfold grantAmount at h
  split at h
  · split at h
    · next hmin => obtain ⟨rfl, rfl⟩ : need = n ∧ false = p := by simpa using h
                   exact ⟨hmin, ‹_›, by simp⟩
    · split at h
      · next hmin => obtain ⟨rfl, rfl⟩ : r.minGrant = n ∧ false = p := by simpa using h
                     exact ⟨le_rfl, hmin, by simp⟩
      · exact absurd h nofun
  · split at h
    · next hpart => obtain ⟨rfl, rfl⟩ : slack = n ∧ true = p := by simpa using h
                    exact ⟨hpart.2, le_rfl, fun _ => hpart.1⟩
    · exact absurd h nofun

/-- A decision for a window fits the slacks of the walk. -/
def DecisionFits (r : Reads) (w : WalkResult) : DecisionKind → Prop
  | .extend n p => r.minGrant ≤ n ∧ n ≤ w.extensionSlack ∧ (p = true → r.partials = true)
  | .advance n p => r.minGrant ≤ n ∧ n ≤ max w.targetSlack w.followingSlack ∧ (p = true → r.partials = true)
  | .notServed => False
  | _ => True

theorem decisionFits_extendBy (r : Reads) (w : WalkResult) (need : Nat) :
    DecisionFits r w (extendBy (grantAmount r need w.extensionSlack)) := by
  cases h : grantAmount r need w.extensionSlack with
  | none => trivial
  | some x => exact grantAmount_fits h

theorem decisionFits_advanceBy (r : Reads) (w : WalkResult) (need : Nat) {slack : Nat}
    (hslack : slack ≤ max w.targetSlack w.followingSlack) : DecisionFits r w (advanceBy (grantAmount r need slack)) := by
  cases h : grantAmount r need slack with
  | none => trivial
  | some x => exact (grantAmount_fits h).imp_right fun h => h.imp_left fun hn => hn.trans hslack

theorem decisionFits_decisionCase (r : Reads) (w : WalkResult) (a b : Nat) : DecisionFits r w (decisionCase r w a b) := by
  unfold decisionCase
  split
  · trivial
  split
  · trivial
  split
  · exact decisionFits_advanceBy r w _ (le_max_left ..)
  split
  · exact decisionFits_extendBy r w _
  split
  · next hfits => exact ⟨le_max_right .., hfits, by simp⟩
  · exact decisionFits_advanceBy r w _ (le_max_right ..)

/-- The slacks are held to the step's maximums and the headrooms (R34). -/
theorem extensionSlack_le (w : WalkInput) (phi debtLimit : Nat) (debt : Int) :
    (walk w phi debtLimit debt).extensionSlack ≤ (stepAt w.steps phi).maxExtension
      ∧ ((walk w phi debtLimit debt).extensionSlack : Int) ≤ max 0 (debtLimit - debt) := by
  simp only [walk, extensionHeadroom]; omega

theorem advanceSlacks_le (w : WalkInput) (phi debtLimit : Nat) (debt : Int) :
    (let r := walk w phi debtLimit debt
     max r.targetSlack r.followingSlack ≤ (stepAt w.steps phi).maxAdvance
       ∧ ((max r.targetSlack r.followingSlack : Nat) : Int) ≤ max 0 (debtLimit + debt)) := by
  simp only [walk, advanceHeadroom]; omega

/-- The slacks of an evaluation's walk (R74). -/
theorem walkOf_extensionSlack_le (r : Reads) (te : Time) (k : Nat) :
    (walkOf r te k).extensionSlack ≤ (stepAt ((r.plan.map Plan.steps).getD []) k).maxExtension
      ∧ ((walkOf r te k).extensionSlack : Int) ≤ max 0 (r.debtLimit - r.debt) := extensionSlack_le ..

theorem walkOf_advanceSlacks_le (r : Reads) (te : Time) (k : Nat) :
    max (walkOf r te k).targetSlack (walkOf r te k).followingSlack
        ≤ (stepAt ((r.plan.map Plan.steps).getD []) k).maxAdvance
      ∧ ((max (walkOf r te k).targetSlack (walkOf r te k).followingSlack : Nat) : Int) ≤ max 0 (r.debtLimit + r.debt) :=
  advanceSlacks_le ..

/-- R66 at a LIVE junction with a priority step and no window: the forecast decides the outcome, the decision is kept. -/
theorem decisionOf_of_no_window {r : Reads} {te : Time} {k : Nat} (hlive : r.live = true) (hphi : readPriority r = some k)
    (hwindow : windowOf (forecastOf r te) = none) :
    decisionOf r te = (.keep, forecastOutcome (forecastOf r te) .noSlack) := by
  simp only [decisionOf, hlive, hphi, hwindow, Bool.true_eq_false, if_false]

/-- R66 at a LIVE junction with a priority step and a window: R67 decides. -/
theorem decisionOf_of_window {r : Reads} {te : Time} {k a b : Nat} (hlive : r.live = true)
    (hphi : readPriority r = some k) (hwindow : windowOf (forecastOf r te) = some (a, b)) :
    decisionOf r te = (.store { kind := decisionCase r (walkOf r te k) a b, time := te },
      outcomeOf (decisionCase r (walkOf r te k) a b)) := by
  simp only [decisionOf, hlive, hphi, hwindow, Bool.true_eq_false, if_false]

theorem readPriority_eq (r : Reads) : readPriority r = r.plan.bind fun p => (p.approaches[r.approach]).priority := by
  cases h : r.plan <;> simp [readPriority, readEntry, h]

/-- Settles O31: a path of R66 at a time, with the amount bounded by the slack that R73 took it from. -/
theorem decidedAmountFitsMaximumAndHeadroom : Obligations.DecidedAmountFitsMaximumAndHeadroom := by
  intro r te
  dsimp only
  rw [← readPriority_eq]
  refine ⟨⟨rfl, rfl, rfl, rfl⟩, fun hdark => ?_, fun hlive hphi => ?_, fun k hlive hphi => ?_⟩
  · simp only [decisionOf, hdark, if_true]
    exact ⟨trivial, rfl⟩
  · simp only [decisionOf, hlive, hphi, Bool.true_eq_false, if_false]
    exact ⟨trivial, rfl⟩
  · refine ⟨fun h => ?_, fun rho src h => ?_, fun rho a b src h => ?_⟩
    · rw [decisionOf_of_no_window hlive hphi (by rw [h]; rfl), h]
      exact ⟨rfl, rfl⟩
    · rw [decisionOf_of_no_window hlive hphi (by rw [h]; rfl), h]
      exact ⟨rfl, rfl⟩
    have hwindow : windowOf (forecastOf r te) = some (a, b) := by
      obtain h | h := h <;> rw [h] <;> rfl
    rw [decisionOf_of_window hlive hphi hwindow]
    have hfits := decisionFits_decisionCase r (walkOf r te k) a b
    refine ⟨rfl, fun h => by rw [walkOf, elapsedAt, h]; rfl, fun h => by rw [walkOf, elapsedAt, h]; rfl,
      fun h => by rw [walkOf, elapsedAt, h]; rfl, fun n p h => ?_, fun n p h => ?_, fun h => ?_⟩
    · have h' : decisionCase r (walkOf r te k) a b = .extend n p := h
      rw [h'] at hfits ⊢
      obtain ⟨hmin, hslack, hpart⟩ := hfits
      exact ⟨rfl, hmin, hslack.trans (walkOf_extensionSlack_le r te k).1,
        (Int.ofNat_le.mpr hslack).trans (walkOf_extensionSlack_le r te k).2, hpart⟩
    · have h' : decisionCase r (walkOf r te k) a b = .advance n p := h
      rw [h'] at hfits ⊢
      obtain ⟨hmin, hslack, hpart⟩ := hfits
      exact ⟨rfl, hmin, hslack.trans (walkOf_advanceSlacks_le r te k).1,
        (Int.ofNat_le.mpr hslack).trans (walkOf_advanceSlacks_le r te k).2, hpart⟩
    · have h' : decisionCase r (walkOf r te k) a b = .notServed := h
      rw [h'] at hfits
      exact hfits

/-! ### The score (R77, R78) -/

theorem scoreOf_of_forced {r : Reads} (o : EvalOutcome) (h : r.cls = .forced) : scoreOf r o = 1023 := if_pos h

/-- The formula of R77 for the classes below 3. -/
theorem scoreOf_of_not_forced {r : Reads} (o : EvalOutcome) (h : r.cls ≠ .forced) :
    (scoreOf r o : Int) = max 0 (min 1022 ((classBase r.cls : Int) + 2 * min (max (r.deviation.getD 0) 0) 300
      + (min (r.occupancy.getD 0) 150 * 2 / 3 : Nat) - (amountTerm o / 4 : Nat))) := by
  rw [scoreOf, if_neg h]
  exact Int.toNat_of_nonneg (clamp_mem (by decide) _).1

theorem scoreOf_le (r : Reads) (o : EvalOutcome) : scoreOf r o ≤ 1023 := by
  by_cases h : r.cls = .forced
  · exact (scoreOf_of_forced o h).le
  · have := scoreOf_of_not_forced o h; omega

theorem scoreOf_le_of_not_forced {r : Reads} (o : EvalOutcome) (h : r.cls ≠ .forced) : scoreOf r o ≤ 1022 := by
  have := scoreOf_of_not_forced o h; omega

/-- Settles O32: the terms of the formula are each bounded. -/
theorem scoreFollowsTheFormula : Obligations.ScoreFollowsTheFormula := by
  intro r o
  refine ⟨fun base term hcls hbase hsome hnone => ?_, scoreOf_of_forced o, fun hamount => ?_⟩
  · have hterm : amountTerm o = term := by
      cases o with
      | extend n => exact (hsome n (.inl rfl)).symm
      | advance n => exact (hsome n (.inr rfl)).symm
      | _ => exact (hnone fun n => ⟨nofun, nofun⟩).symm
    have hbase' : classBase r.cls = base := by
      rw [hbase]
      cases h : r.cls with
      | forced => exact absurd h hcls
      | _ => rfl
    rw [scoreOf_of_not_forced o hcls, hterm, hbase']
  · have hterm : amountTerm o ≤ 400 := by
      cases o with
      | extend n => exact hamount n (.inl rfl)
      | advance n => exact hamount n (.inr rfl)
      | _ => exact Nat.zero_le _
    refine ⟨scoreOf_le r o, fun hcls => ?_, fun hcls => ?_, fun hcls => ?_⟩
    · have hscore := scoreOf_of_not_forced o hcls
      have hbase : classBase r.cls ≤ 300 := by cases r.cls <;> decide
      omega
    · have hscore := scoreOf_of_not_forced o (r := r) (by rw [hcls]; decide)
      have hbase : classBase r.cls = 300 := by rw [hcls]; rfl
      omega
    · have hscore := scoreOf_of_not_forced o (r := r) (by rw [hcls]; decide)
      have hbase : classBase r.cls = 150 := by rw [hcls]; rfl
      omega

end Sys2Proof.Proofs

/-! The schedule walk: where the occurrences of a step lie, what the yields of its donors add up to, and what a grant in
progress moves. -/

namespace Sys2Proof.Proofs

open Sys2Proof.Machine Sys2Proof.Safety Sys2Proof.Laws

/-! ### Occurrences (R27) -/

section

variable {w : WalkInput} (hcurrent : w.current < w.steps.length) {phi : Nat} (hphi : phi < w.steps.length)
include hcurrent hphi

/-- The first occurrence of a step, the wrap taken out. -/
theorem firstOcc_eq_ite :
    firstOcc w phi = if w.current ≤ phi then phi - w.current else phi + w.steps.length - w.current := by
  unfold firstOcc
  split
  · next h =>
    rw [show phi + w.steps.length - w.current = phi - w.current + w.steps.length by omega, Nat.add_mod_right]
    exact Nat.mod_eq_of_lt (by omega)
  · exact Nat.mod_eq_of_lt (by omega)

theorem firstOcc_lt : firstOcc w phi < w.steps.length := by
  rw [firstOcc_eq_ite hcurrent hphi]; split <;> omega

theorem firstOcc_eq_zero_iff : firstOcc w phi = 0 ↔ w.current = phi := by
  rw [firstOcc_eq_ite hcurrent hphi]; split <;> omega

theorem firstOcc_ne {psi : Nat} (hpsi : psi < w.steps.length) (hne : phi ≠ psi) : firstOcc w phi ≠ firstOcc w psi := by
  rw [firstOcc_eq_ite hcurrent hphi, firstOcc_eq_ite hcurrent hpsi]; split <;> split <;> omega

end

/-- The first occurrence of a step is of that step. -/
theorem occStep_firstOcc {w : WalkInput} (hcurrent : w.current < w.steps.length) (phi : Nat) :
    occStep w (firstOcc w phi) = stepAt w.steps phi := by
  unfold occStep stepAt firstOcc
  rw [Nat.add_mod_mod, show w.current + (phi + w.steps.length - w.current) = phi + w.steps.length by omega,
    Nat.add_mod_right]

/-- One cycle of occurrences, from any place on, has every step once. -/
theorem map_stepAt_range (steps : List PlanStep) (m : Nat) :
    ((List.range steps.length).map fun k => stepAt steps (m + k)) = steps.rotate m := by
  refine List.ext_getElem (by simp) fun k hk hk' => ?_
  have hpos : (m + k) % steps.length < steps.length := Nat.mod_lt _ (by simp at hk; omega)
  simp only [List.getElem_map, List.getElem_range, List.getElem_rotate, stepAt, Nat.add_comm k m]
  rw [List.getD_eq_getElem _ _ hpos]

/-- A sum over one cycle of occurrences is the sum over the steps. -/
theorem sum_stepAt_range (steps : List PlanStep) (f : PlanStep → Nat) (m : Nat) :
    ((List.range steps.length).map fun k => f (stepAt steps (m + k))).sum = (steps.map f).sum := by
  have hmap : ((List.range steps.length).map fun k => f (stepAt steps (m + k))) = (steps.rotate m).map f := by
    rw [← map_stepAt_range, List.map_map]; rfl
  rw [hmap]
  exact ((List.rotate_perm steps m).map f).sum_eq

/-- The same with the first occurrence taken out. -/
theorem sum_stepAt_range_pred (steps : List PlanStep) (f : PlanStep → Nat) (m : Nat) (hpos : 0 < steps.length) :
    f (stepAt steps m) + ((List.range (steps.length - 1)).map fun k => f (stepAt steps (m + 1 + k))).sum
      = (steps.map f).sum := by
  rw [← sum_stepAt_range steps f m]
  obtain ⟨n, hn⟩ := Nat.exists_eq_add_of_lt hpos
  rw [show steps.length = n + 1 by omega, List.range_succ_eq_map]
  simp only [Nat.add_sub_cancel, List.map_cons, List.sum_cons, List.map_map, Nat.add_zero]
  congr 2
  refine List.map_congr_left fun k _ => ?_
  simp only [Function.comp, Nat.succ_eq_add_one, Nat.add_right_comm m 1 k, Nat.add_assoc]

/-! ### Yields (R31, R32) -/

theorem occYield_zero (w : WalkInput) :
    occYield w 0 = if (stepAt w.steps w.current).guarded then 0
      else ((stepAt w.steps w.current).split - w.elapsed) - ((stepAt w.steps w.current).minGreen - w.elapsed) := rfl

theorem occYield_of_pos (w : WalkInput) {i : Nat} (h : i ≠ 0) : occYield w i = stepYield (stepAt w.steps (w.current + i)) := by
  simp only [occYield, stepYield, occStep, h, if_false]

/-- A sum over a range that starts at occurrence 1 or later, in the plan's own splits and minimums. -/
theorem yieldSum_of_pos (w : WalkInput) {lo : Nat} (h : lo ≠ 0) (hi : Nat) :
    yieldSum w lo hi = ((List.range (hi - lo)).map fun k => stepYield (stepAt w.steps (w.current + lo + k))).sum := by
  unfold yieldSum
  congr 1
  exact List.map_congr_left fun k _ => by rw [occYield_of_pos w (by omega), Nat.add_assoc]

theorem yieldSum_zero_succ (w : WalkInput) (t : Nat) : yieldSum w 0 (t + 1) = occYield w 0 + yieldSum w 1 (t + 1) := by
  simp only [yieldSum, Nat.sub_zero, Nat.add_sub_cancel, List.range_succ_eq_map, List.map_cons, List.sum_cons,
    List.map_map, Nat.zero_add]
  congr 2
  exact List.map_congr_left fun k _ => by simp only [Function.comp, Nat.succ_eq_add_one, Nat.add_comm]

/-- Settles O28: the donors of the target green are the occurrences before it, those of the following green one cycle less the
green itself. -/
theorem slacksComeFromYieldsAndHeadrooms : Obligations.SlacksComeFromYieldsAndHeadrooms := by
  intro w phi debtLimit debt hcurrent hphi
  refine ⟨?_, ?_, ?_, fun h => ?_, fun h => ?_, ?_⟩
  · simp only [walk, extensionHeadroom]; omega
  · simp only [walk, advanceHeadroom]; omega
  · simp only [walk, advanceHeadroom]; omega
  · rw [targetYield, (firstOcc_eq_zero_iff hcurrent hphi).mpr h]
    rfl
  · have hpos : firstOcc w phi ≠ 0 := fun hzero => h ((firstOcc_eq_zero_iff hcurrent hphi).mp hzero)
    obtain ⟨t, ht⟩ := Nat.exists_eq_succ_of_ne_zero hpos
    rw [targetYield, ht, Nat.succ_eq_add_one, yieldSum_zero_succ, yieldSum_of_pos w one_ne_zero, occYield_zero]
    have ht' : (phi + w.steps.length - w.current) % w.steps.length = t + 1 := ht
    rw [ht']
  · rw [followingYield, yieldSum_of_pos w (Nat.succ_ne_zero _),
      show firstOcc w phi + w.steps.length - (firstOcc w phi + 1) = w.steps.length - 1 by omega, Nat.add_comm,
      ← occStep_firstOcc hcurrent phi]
    exact sum_stepAt_range_pred w.steps stepYield (w.current + firstOcc w phi) (by omega)

/-! ### Offsets (R27 to R30) -/

theorem planStart_succ (w : WalkInput) (i : Nat) : planStart w (i + 1) = planStart w i + occDuration w i := rfl

theorem planStart_add (w : WalkInput) (i m : Nat) :
    planStart w (i + m) = planStart w i + ((List.range m).map fun k => occDuration w (i + k)).sum := by
  induction m with
  | zero => simp
  | succ m ih => rw [← Nat.add_assoc, planStart_succ, ih]; simp [List.range_succ]; omega

theorem planStart_mono (w : WalkInput) {i k : Nat} (h : i ≤ k) : planStart w i ≤ planStart w k := by
  obtain ⟨m, rfl⟩ := Nat.exists_eq_add_of_le h
  rw [planStart_add]; omega

/-- What a donor yields is part of its time. -/
theorem occYield_le_occDuration (w : WalkInput) (i : Nat) : occYield w i ≤ occDuration w i := by
  unfold occYield occDuration planRemaining
  split
  · exact Nat.zero_le _
  · split
    · next hi => subst hi; omega
    · omega

theorem yieldSum_le_planStart (w : WalkInput) (lo hi : Nat) (h : lo ≤ hi) : yieldSum w lo hi ≤ planStart w hi := by
  obtain ⟨m, rfl⟩ := Nat.exists_eq_add_of_le h
  rw [planStart_add, yieldSum, Nat.add_sub_cancel_left]
  exact (List.sum_le_sum fun k _ => occYield_le_occDuration w (lo + k)).trans (Nat.le_add_left ..)

/-- The walk of the plan alone. -/
def planOnly (w : WalkInput) : WalkInput := { w with grant := none }

/-- No grant is in progress: an IDLE or OFFERED one changes no walk (R28). -/
def NoGrantInProgress (w : WalkInput) : Prop := ∀ g ∈ w.grant, g.mode = .idle ∨ g.mode = .offered

theorem extensionAt_of_not_extending {w : WalkInput} (h : ∀ g ∈ w.grant, g.mode ≠ .extending) (i : Nat) :
    extensionAt w i = 0 := by
  unfold extensionAt
  split
  · next g hg => exact if_neg fun hext => h g hg hext.1
  · rfl

theorem advanceAt_of_not_advancing {w : WalkInput} (h : ∀ g ∈ w.grant, g.mode ≠ .advancing) (i : Nat) :
    advanceAt w i = 0 := by
  unfold advanceAt
  split
  · next g hg => exact if_neg fun hadv => h g hg hadv.1
  · rfl

/-- Without an extension the durations are the plan's, and so are the offsets before an advance. -/
theorem occDuration_of_not_extending {w : WalkInput} (h : ∀ g ∈ w.grant, g.mode ≠ .extending) (i : Nat) :
    occDuration w i = if i = 0 then (stepAt w.steps w.current).split - w.elapsed
      else (stepAt w.steps (w.current + i)).split := by
  simp only [occDuration, extensionAt_of_not_extending h, occStep, Nat.add_zero]

theorem occDuration_planOnly (w : WalkInput) (i : Nat) :
    occDuration (planOnly w) i = if i = 0 then (stepAt w.steps w.current).split - w.elapsed
      else (stepAt w.steps (w.current + i)).split :=
  occDuration_of_not_extending (w := planOnly w) (by simp [planOnly]) i

theorem planStart_of_not_extending {w : WalkInput} (h : ∀ g ∈ w.grant, g.mode ≠ .extending) (i : Nat) :
    planStart w i = planStart (planOnly w) i := by
  induction i with
  | zero => rfl
  | succ i ih => rw [planStart_succ, planStart_succ, ih, occDuration_of_not_extending h, occDuration_planOnly]

/-- What an extension adds to the occurrence it lengthens: its amount, or, for the running step, what the lengthened
split has left more than the plan's (R29). -/
def lengthening (w : WalkInput) (g : GrantView) : Nat :=
  if w.current = g.step then
    ((stepAt w.steps g.step).split + g.amount - w.elapsed) - ((stepAt w.steps g.step).split - w.elapsed)
  else g.amount

section

variable {w : WalkInput} {g : GrantView} (hcurrent : w.current < w.steps.length) (hstep : g.step < w.steps.length)
  (hgrant : w.grant = some g)
include hcurrent hstep hgrant

theorem occDuration_of_extending (hmode : g.mode = .extending) (i : Nat) :
    occDuration w i = occDuration (planOnly w) i + if i = firstOcc w g.step then lengthening w g else 0 := by
  have hadd : extensionAt w i = if i = firstOcc w g.step then g.amount else 0 := by
    simp only [extensionAt, hgrant, hmode, true_and]
  have hzero := firstOcc_eq_zero_iff hcurrent hstep
  rw [occDuration_planOnly, lengthening, occDuration]
  by_cases hi : i = 0
  · subst hi
    simp only [if_true, hadd]
    by_cases hrun : w.current = g.step
    · rw [if_pos (hzero.mpr hrun).symm, if_pos (hzero.mpr hrun).symm, if_pos hrun, ← hrun]
      simp only [occStep, Nat.add_zero]
      omega
    · rw [if_neg fun h => hrun (hzero.mp h.symm), if_neg fun h => hrun (hzero.mp h.symm)]
      rfl
  · simp only [hi, if_false, hadd]
    by_cases hocc : i = firstOcc w g.step
    · have hrun : w.current ≠ g.step := fun h => hi (hocc.trans (hzero.mpr h))
      rw [if_pos hocc, if_pos hocc, if_neg hrun]
      rfl
    · rw [if_neg hocc, if_neg hocc]
      rfl

/-- An extension moves every later offset by its lengthening. -/
theorem planStart_of_extending (hmode : g.mode = .extending) (i : Nat) :
    planStart w i = planStart (planOnly w) i + if firstOcc w g.step < i then lengthening w g else 0 := by
  induction i with
  | zero => rfl
  | succ i ih =>
    rw [planStart_succ, planStart_succ, ih, occDuration_of_extending hcurrent hstep hgrant hmode]
    obtain h | h | h := lt_trichotomy (firstOcc w g.step) i
    · rw [if_pos h, if_neg (by omega), if_pos (by omega)]; omega
    · rw [if_neg (by omega), if_pos h.symm, if_pos (by omega)]; omega
    · rw [if_neg (by omega), if_neg (by omega), if_neg (by omega)]; omega

end

theorem advanceAt_of_advancing {w : WalkInput} {g : GrantView} (hgrant : w.grant = some g) (hmode : g.mode = .advancing)
    (i : Nat) : advanceAt w i = if nextOcc w g.step ≤ i then min g.amount (advancedYield w g.step) else 0 := by
  simp only [advanceAt, hgrant, hmode, true_and]

/-- The walk with an extension in progress: the offsets of the plan's walk, moved. -/
theorem walk_of_extending {w : WalkInput} {g : GrantView} (hcurrent : w.current < w.steps.length)
    (hstep : g.step < w.steps.length) (hgrant : w.grant = some g) (hmode : g.mode = .extending) (phi debtLimit : Nat)
    (debt : Int) :
    (let r := walk w phi debtLimit debt
     let plan := walk (planOnly w) phi debtLimit debt
     let d := lengthening w g
     r.greenStart = plan.greenStart + (if firstOcc w g.step < firstOcc w phi then d else 0)
       ∧ r.greenEnd = plan.greenEnd + (if firstOcc w g.step ≤ firstOcc w phi then d else 0)
       ∧ r.nextGreen = plan.nextGreen + d) := by
  have hnone : ∀ i, advanceAt w i = 0 := advanceAt_of_not_advancing (by simp [hgrant, hmode])
  have hnone' : ∀ i, advanceAt (planOnly w) i = 0 := advanceAt_of_not_advancing (by simp [planOnly])
  have hlt := firstOcc_lt hcurrent hstep
  have hstart := planStart_of_extending hcurrent hstep hgrant hmode
  have hocc : ∀ k, firstOcc (planOnly w) k = firstOcc w k := fun _ => rfl
  have hlen : (planOnly w).steps = w.steps := rfl
  simp only [walk, occStart, occEnd, hnone, hnone', Nat.sub_zero, hstart,
    occDuration_of_extending hcurrent hstep hgrant hmode, hocc, hlen]
  refine ⟨trivial, ?_, ?_⟩
  · obtain h | h | h := lt_trichotomy (firstOcc w g.step) (firstOcc w phi)
    · rw [if_pos h, if_neg (by omega), if_pos (by omega)]; omega
    · rw [if_neg (by omega), if_pos h.symm, if_pos (by omega)]; omega
    · rw [if_neg (by omega), if_neg (by omega), if_neg (by omega)]; omega
  · rw [if_pos (by omega)]

/-- The walk with an advance in progress: the offsets of the plan's walk from the advanced occurrence on are earlier. -/
theorem walk_of_advancing {w : WalkInput} {g : GrantView} (hgrant : w.grant = some g) (hmode : g.mode = .advancing)
    (phi debtLimit : Nat) (debt : Int) :
    (let r := walk w phi debtLimit debt
     let plan := walk (planOnly w) phi debtLimit debt
     let d := min g.amount (advancedYield w g.step)
     r.greenStart = plan.greenStart - (if nextOcc w g.step ≤ firstOcc w phi then d else 0)
       ∧ r.greenEnd = plan.greenEnd - (if nextOcc w g.step ≤ firstOcc w phi then d else 0)
       ∧ r.nextGreen = plan.nextGreen - (if nextOcc w g.step ≤ firstOcc w phi + w.steps.length then d else 0)) := by
  have hnone' : ∀ i, advanceAt (planOnly w) i = 0 := advanceAt_of_not_advancing (by simp [planOnly])
  have hext : ∀ x ∈ w.grant, x.mode ≠ .extending := by simp [hgrant, hmode]
  have hocc : ∀ k, firstOcc (planOnly w) k = firstOcc w k := fun _ => rfl
  have hlen : (planOnly w).steps = w.steps := rfl
  simp only [walk, occStart, occEnd, advanceAt_of_advancing hgrant hmode, hnone', Nat.sub_zero, planStart_of_not_extending hext,
    occDuration_of_not_extending hext, occDuration_planOnly, hocc, hlen, and_self]

/-- The time a donated advance takes lies before the advanced occurrence. -/
theorem advancedYield_le_planStart (w : WalkInput) (k : Nat) :
    advancedYield w k ≤ planStart (planOnly w) (nextOcc w k) := by
  have hyield : ∀ lo hi, yieldSum w lo hi = yieldSum (planOnly w) lo hi := fun _ _ => rfl
  unfold advancedYield nextOcc
  split
  · rw [hyield]
    by_cases h : 1 ≤ w.steps.length
    · exact yieldSum_le_planStart _ _ _ h
    · simp [yieldSum, show w.steps.length - 1 = 0 by omega]
  · rw [hyield]
    exact yieldSum_le_planStart _ _ _ (Nat.zero_le _)

/-- The offsets of the plan's own walk. -/
theorem walk_planOnly (w : WalkInput) (phi debtLimit : Nat) (debt : Int) :
    (let r := walk (planOnly w) phi debtLimit debt
     r.greenStart = planStart (planOnly w) (firstOcc w phi)
       ∧ r.greenEnd = planStart (planOnly w) (firstOcc w phi) + occDuration (planOnly w) (firstOcc w phi)
       ∧ r.nextGreen = planStart (planOnly w) (firstOcc w phi + w.steps.length)) := by
  have hnone' : ∀ i, advanceAt (planOnly w) i = 0 := advanceAt_of_not_advancing (by simp [planOnly])
  simp only [walk, occStart, occEnd, hnone', Nat.sub_zero]
  exact ⟨rfl, rfl, rfl⟩

/-- With no grant in progress the walk is the plan's. -/
theorem walk_of_noGrantInProgress {w : WalkInput} (h : NoGrantInProgress w) (phi debtLimit : Nat) (debt : Int) :
    walk w phi debtLimit debt = walk (planOnly w) phi debtLimit debt := by
  have hext : ∀ g ∈ w.grant, g.mode ≠ .extending := fun g hg => by obtain h | h := h g hg <;> rw [h] <;> decide
  have hadv : ∀ g ∈ w.grant, g.mode ≠ .advancing := fun g hg => by obtain h | h := h g hg <;> rw [h] <;> decide
  have hnone' : ∀ i, advanceAt (planOnly w) i = 0 := advanceAt_of_not_advancing (by simp [planOnly])
  have hocc : ∀ k, firstOcc (planOnly w) k = firstOcc w k := fun _ => rfl
  have hlen : (planOnly w).steps = w.steps := rfl
  simp only [walk, occStart, occEnd, advanceAt_of_not_advancing hadv, hnone', planStart_of_not_extending hext,
    occDuration_of_not_extending hext, occDuration_planOnly, hocc, hlen]
  rfl

/-- The plan's walk in the plan's own splits (R27). -/
theorem walk_planOnly_offsets {w : WalkInput} {phi : Nat} (hcurrent : w.current < w.steps.length)
    (hphi : phi < w.steps.length) (debtLimit : Nat) (debt : Int) :
    (let n := w.steps.length
     let split := fun i => (stepAt w.steps i).split
     let cycle := (w.steps.map PlanStep.split).sum
     let remaining := split w.current - w.elapsed
     let r := walk (planOnly w) phi debtLimit debt
     (w.current = phi → r.greenStart = 0 ∧ r.greenEnd = remaining)
     ∧ (w.current ≠ phi →
         r.greenStart = remaining
             + ((List.range ((phi + n - w.current) % n - 1)).map fun k => split (w.current + 1 + k)).sum
           ∧ r.greenEnd = r.greenStart + split phi)
     ∧ r.nextGreen + split phi = r.greenEnd + cycle) := by
  obtain ⟨hstart, hend, hnext⟩ := walk_planOnly w phi debtLimit debt
  have hlt := firstOcc_lt hcurrent hphi
  have hzero := firstOcc_eq_zero_iff hcurrent hphi
  have hocc := occStep_firstOcc hcurrent phi
  have hsum : ∀ i m, i ≠ 0 → ((List.range m).map fun k => occDuration (planOnly w) (i + k)).sum
      = ((List.range m).map fun k => (stepAt w.steps (w.current + i + k)).split).sum := fun i m hi => by
    congr 1
    exact List.map_congr_left fun k _ => by rw [occDuration_planOnly, if_neg (by omega), Nat.add_assoc]
  have hfirst : occDuration (planOnly w) 0 = (stepAt w.steps w.current).split - w.elapsed := occDuration_planOnly w 0
  dsimp only
  rw [hstart, hend, hnext]
  refine ⟨fun h => ?_, fun h => ?_, ?_⟩
  · rw [hzero.mpr h, hfirst]
    exact ⟨rfl, Nat.zero_add _⟩
  · have hpos : firstOcc w phi ≠ 0 := fun h' => h (hzero.mp h')
    refine ⟨?_, ?_⟩
    · obtain ⟨t, ht⟩ := Nat.exists_eq_succ_of_ne_zero hpos
      have ht' : (phi + w.steps.length - w.current) % w.steps.length = t + 1 := ht
      rw [ht', ht, Nat.succ_eq_add_one, Nat.add_comm t 1, planStart_add, hsum 1 t one_ne_zero, Nat.add_sub_cancel_left,
        planStart_succ, hfirst]
      simp [planStart]
    · rw [occDuration_planOnly, if_neg hpos, ← hocc]
      rfl
  · rw [planStart_add]
    have hcycle := sum_stepAt_range_pred w.steps PlanStep.split (w.current + firstOcc w phi) (by omega)
    have hphi' : stepAt w.steps (w.current + firstOcc w phi) = stepAt w.steps phi := hocc
    rw [hphi'] at hcycle
    obtain ⟨n, hn⟩ := Nat.exists_eq_add_of_lt (show 0 < w.steps.length by omega)
    have hsplit : ((List.range w.steps.length).map fun k => occDuration (planOnly w) (firstOcc w phi + k)).sum
        = occDuration (planOnly w) (firstOcc w phi) + ((List.range (w.steps.length - 1)).map fun k =>
            (stepAt w.steps (w.current + firstOcc w phi + 1 + k)).split).sum := by
      rw [Nat.add_assoc w.current, ← hsum _ _ (Nat.succ_ne_zero _)]
      rw [show w.steps.length = n + 1 by omega, List.range_succ_eq_map]
      simp only [Nat.add_sub_cancel, List.map_cons, List.sum_cons, List.map_map, Nat.add_zero]
      congr 2
      exact List.map_congr_left fun k _ => by
        simp only [Function.comp, Nat.succ_eq_add_one, Nat.add_assoc, Nat.add_comm 1 k]
    rw [hsplit]
    omega

/-- The slacks are those of the plan, whatever the grant (R31). -/
theorem slacks_planOnly (w : WalkInput) (phi debtLimit : Nat) (debt : Int) :
    (walk w phi debtLimit debt).extensionSlack = (walk (planOnly w) phi debtLimit debt).extensionSlack
      ∧ (walk w phi debtLimit debt).targetSlack = (walk (planOnly w) phi debtLimit debt).targetSlack
      ∧ (walk w phi debtLimit debt).followingSlack = (walk (planOnly w) phi debtLimit debt).followingSlack :=
  ⟨rfl, rfl, rfl⟩

section

variable {w : WalkInput} {g : GrantView} (hcurrent : w.current < w.steps.length) (hstep : g.step < w.steps.length)
include hcurrent hstep

/-- Where the granted step is not running, its advance is of its target green. -/
theorem advanced_of_ahead (hrun : w.current ≠ g.step) :
    nextOcc w g.step = firstOcc w g.step ∧ advancedYield w g.step = targetYield w g.step := by
  have hpos : firstOcc w g.step ≠ 0 := fun h => hrun ((firstOcc_eq_zero_iff hcurrent hstep).mp h)
  exact ⟨if_neg hpos, if_neg hpos⟩

/-- Where the granted step is running, its advance is of its following green. -/
theorem advanced_of_running (hrun : w.current = g.step) :
    nextOcc w g.step = w.steps.length ∧ advancedYield w g.step = followingYield w g.step := by
  have hzero := (firstOcc_eq_zero_iff hcurrent hstep).mpr hrun
  refine ⟨if_pos hzero, ?_⟩
  rw [advancedYield, if_pos hzero, followingYield, hzero, Nat.zero_add, Nat.zero_add]

end

/-- The walk of the holder and the riders of a grant in progress (R29, R30). -/
theorem walk_of_granted {w : WalkInput} {g : GrantView} (debtLimit : Nat) (debt : Int)
    (hcurrent : w.current < w.steps.length) (hstep : g.step < w.steps.length) (hgrant : w.grant = some g) :
    (let r := walk w g.step debtLimit debt
     let plan := walk (planOnly w) g.step debtLimit debt
     (g.mode = .extending → w.current ≠ g.step →
       r.greenStart = plan.greenStart ∧ r.greenEnd = plan.greenEnd + g.amount
         ∧ r.nextGreen = plan.nextGreen + g.amount)
     ∧ (g.mode = .extending → w.current = g.step →
       r.greenStart = 0 ∧ r.greenEnd = (stepAt w.steps g.step).split + g.amount - w.elapsed
         ∧ r.nextGreen + plan.greenEnd = plan.nextGreen + r.greenEnd)
     ∧ (g.mode = .advancing → w.current ≠ g.step →
       (let d := min g.amount (targetYield w g.step)
        r.greenStart = plan.greenStart - d ∧ r.greenEnd = plan.greenEnd - d ∧ r.nextGreen = plan.nextGreen - d))
     ∧ (g.mode = .advancing → w.current = g.step →
       r.greenStart = plan.greenStart ∧ r.greenEnd = plan.greenEnd
         ∧ r.nextGreen = plan.nextGreen - min g.amount (followingYield w g.step))) := by
  have hlt := firstOcc_lt hcurrent hstep
  refine ⟨fun hmode hrun => ?_, fun hmode hrun => ?_, fun hmode hrun => ?_, fun hmode hrun => ?_⟩
  · obtain ⟨hstart, hend, hnext⟩ := walk_of_extending hcurrent hstep hgrant hmode g.step debtLimit debt
    rw [if_neg (lt_irrefl _)] at hstart
    rw [if_pos le_rfl, lengthening, if_neg hrun] at hend
    rw [lengthening, if_neg hrun] at hnext
    exact ⟨hstart, hend, hnext⟩
  · obtain ⟨hstart, hend, hnext⟩ := walk_of_extending hcurrent hstep hgrant hmode g.step debtLimit debt
    obtain ⟨hplan, -, -⟩ := walk_planOnly_offsets hcurrent hstep debtLimit debt
    obtain ⟨hplanStart, hplanEnd⟩ := hplan hrun
    dsimp only at hplanEnd
    rw [if_neg (lt_irrefl _), hplanStart] at hstart
    rw [if_pos le_rfl] at hend
    refine ⟨hstart, ?_, by omega⟩
    rw [hend, hplanEnd, lengthening, if_pos hrun, hrun]
    omega
  · obtain ⟨hstart, hend, hnext⟩ := walk_of_advancing hgrant hmode g.step debtLimit debt
    obtain ⟨hocc, hyield⟩ := advanced_of_ahead hcurrent hstep hrun
    rw [hocc, hyield] at hstart hend hnext
    rw [if_pos le_rfl] at hstart hend
    rw [if_pos (Nat.le_add_right ..)] at hnext
    exact ⟨hstart, hend, hnext⟩
  · obtain ⟨hstart, hend, hnext⟩ := walk_of_advancing hgrant hmode g.step debtLimit debt
    obtain ⟨hocc, hyield⟩ := advanced_of_running hcurrent hstep hrun
    rw [hocc, hyield] at hstart hend hnext
    rw [if_neg (by omega)] at hstart hend
    rw [if_pos (by omega)] at hnext
    exact ⟨hstart, hend, hnext⟩

/-- The walk of a record of another priority step (R28 to R30). -/
theorem walk_of_other {w : WalkInput} {g : GrantView} {phi : Nat} (debtLimit : Nat) (debt : Int)
    (hcurrent : w.current < w.steps.length) (hstep : g.step < w.steps.length) (hphi : phi < w.steps.length)
    (hgrant : w.grant = some g) (hother : phi ≠ g.step) :
    (let r := walk w phi debtLimit debt
     let plan := walk (planOnly w) phi debtLimit debt
     (g.mode = .extending → w.current ≠ g.step →
       (let late := if firstOcc w phi < firstOcc w g.step then 0 else g.amount
        r.greenStart = plan.greenStart + late ∧ r.greenEnd = plan.greenEnd + late
          ∧ r.nextGreen = plan.nextGreen + g.amount))
     ∧ (g.mode = .extending → w.current = g.step →
       (let split := (stepAt w.steps g.step).split
        let late := (split + g.amount - w.elapsed) - (split - w.elapsed)
        r.greenStart = plan.greenStart + late ∧ r.greenEnd = plan.greenEnd + late ∧ r.nextGreen = plan.nextGreen + late))
     ∧ (g.mode = .advancing → w.current ≠ g.step →
       (let early := min g.amount (targetYield w g.step)
        let before := if firstOcc w phi < firstOcc w g.step then 0 else early
        r.greenStart + before = plan.greenStart ∧ r.greenEnd + before = plan.greenEnd
          ∧ r.nextGreen + early = plan.nextGreen))
     ∧ (g.mode = .advancing → w.current = g.step →
       r.greenStart = plan.greenStart ∧ r.greenEnd = plan.greenEnd
         ∧ r.nextGreen + min g.amount (followingYield w g.step) = plan.nextGreen)) := by
  have hlt := firstOcc_lt hcurrent hstep
  have hlt' := firstOcc_lt hcurrent hphi
  have hne := firstOcc_ne hcurrent hphi hstep hother
  refine ⟨fun hmode hrun => ?_, fun hmode hrun => ?_, fun hmode hrun => ?_, fun hmode hrun => ?_⟩
  · obtain ⟨hstart, hend, hnext⟩ := walk_of_extending hcurrent hstep hgrant hmode phi debtLimit debt
    rw [lengthening, if_neg hrun] at hstart hend hnext
    dsimp only
    by_cases hbefore : firstOcc w phi < firstOcc w g.step
    · rw [if_neg (by omega)] at hstart hend
      rw [if_pos hbefore]
      exact ⟨hstart, hend, hnext⟩
    · rw [if_pos (by omega)] at hstart hend
      rw [if_neg hbefore]
      exact ⟨hstart, hend, hnext⟩
  · obtain ⟨hstart, hend, hnext⟩ := walk_of_extending hcurrent hstep hgrant hmode phi debtLimit debt
    have hzero := (firstOcc_eq_zero_iff hcurrent hstep).mpr hrun
    rw [lengthening, if_pos hrun] at hstart hend hnext
    rw [if_pos (by omega)] at hstart hend
    exact ⟨hstart, hend, hnext⟩
  · obtain ⟨hstart, hend, hnext⟩ := walk_of_advancing hgrant hmode phi debtLimit debt
    obtain ⟨hpStart, hpEnd, hpNext⟩ := walk_planOnly w phi debtLimit debt
    have hfits := advancedYield_le_planStart w g.step
    obtain ⟨hocc, hyield⟩ := advanced_of_ahead hcurrent hstep hrun
    rw [hocc, hyield] at hstart hend hnext hfits
    rw [if_pos (by omega)] at hnext
    have hmono := planStart_mono (planOnly w) (show firstOcc w g.step ≤ firstOcc w phi + w.steps.length by omega)
    dsimp only
    by_cases hbefore : firstOcc w phi < firstOcc w g.step
    · rw [if_neg (by omega)] at hstart hend
      rw [if_pos hbefore]
      omega
    · have hmono' := planStart_mono (planOnly w) (show firstOcc w g.step ≤ firstOcc w phi by omega)
      rw [if_pos (by omega)] at hstart hend
      rw [if_neg hbefore]
      omega
  · obtain ⟨hstart, hend, hnext⟩ := walk_of_advancing hgrant hmode phi debtLimit debt
    obtain ⟨-, -, hpNext⟩ := walk_planOnly w phi debtLimit debt
    have hfits := advancedYield_le_planStart w g.step
    obtain ⟨hocc, hyield⟩ := advanced_of_running hcurrent hstep hrun
    rw [hocc, hyield] at hstart hend hnext hfits
    rw [if_neg (by omega)] at hstart hend
    rw [if_pos (by omega)] at hnext
    have hmono := planStart_mono (planOnly w) (show w.steps.length ≤ firstOcc w phi + w.steps.length by omega)
    omega

/-- Settles O27: the walk with a grant in progress is the plan's, moved from the granted occurrence on. -/
theorem walkFollowsThePlanAndTheGrant : Obligations.WalkFollowsThePlanAndTheGrant := by
  refine ⟨fun w phi debtLimit debt hcurrent hphi hnone => ?_, fun w g debtLimit debt hcurrent hstep hgrant => ?_,
    fun w g phi debtLimit debt hcurrent hstep hphi hgrant => ?_⟩
  · rw [walk_of_noGrantInProgress hnone]
    exact walk_planOnly_offsets hcurrent hphi debtLimit debt
  · exact walk_of_granted debtLimit debt hcurrent hstep hgrant
  · refine ⟨slacks_planOnly w phi debtLimit debt, fun hother => ?_, fun hother => ?_, fun hother => ?_, fun hother => ?_⟩
    all_goals obtain ⟨hlate, hheld, hearly, hfollowing⟩ := walk_of_other debtLimit debt hcurrent hstep hphi hgrant hother
    · exact hlate
    · exact hheld
    · exact hearly
    · exact hfollowing

end Sys2Proof.Proofs

/-! The request table and the evaluation queue under every step: the ranges of the records, of their results, and the
queue's promises (R37 to R42, R91). -/

namespace Sys2Proof.Proofs

open Sys2Proof.Machine Sys2Proof.Safety Sys2Proof.Laws

/-! ### What an elementary change does to a slot -/

/-- What happens to a slot: it stays, its record moves, it is vacated, or its evaluation in flight ends. -/
inductive SlotChange (s t : State) (k : SlotId) : Prop
  | kept (h : slotAt t k = slotAt s k)
  | record (r r' : Record) (hr : recordAt s k = some r) (hmove : RecordMove (inFlight s k) r r')
      (h : slotAt t k = { slotAt s k with record := some r' })
  | vacated (h : slotAt t k = vacate (slotAt s k))
  | restated (r : Record) (hr : recordAt s k = some r) (hlanded : t.flight = none)
      (h : slotAt t k = { slotAt s k with record := some { r with changedInFlight := false } })
  | stored (f : Flight) (r : Record) (hf : s.flight = some f) (hk : f.slot = k) (hr : recordAt s k = some r)
      (hgen : (slotAt s k).generation = f.generation) (hunchanged : r.changedInFlight = false)
      (hlanded : t.flight = none) (h : slotAt t k = { slotAt s k with record := some (stored (evaluate f.reads f.te) r) })

theorem slotAt_vacatedAll (s : State) (k : SlotId) :
    slotAt { s with slots := s.slots.map vacate, evalQueue := [] } k = vacate (slotAt s k) := by
  simp [slotAt]

theorem slotAt_onRecord_of_some {s : State} {i : SlotId} {r : Record} (hr : recordAt s i = some r) (f : Record → Record) :
    slotAt (onRecord i f s) i = { slotAt s i with record := some (f r) } := by
  have hr' : (slotAt s i).record = some r := hr
  rw [slotAt_onRecord, if_pos rfl, hr', Option.map_some]

theorem Change.slot {s t : State} (h : Change s t) (k : SlotId) : SlotChange s t k := by
  have hkept : ∀ {u : State}, u.slots = s.slots → SlotChange s u k := fun e => .kept (slotAt_congr e k)
  cases h with
  | records hmove =>
    cases hmove k with
    | kept h => exact .kept h
    | record r r' hr hmove h => exact .record r r' hr hmove h
  | vacated i =>
    by_cases hk : i = k
    · subst hk; exact .vacated (by rw [slotAt_onSlot_same, slotAt_dequeue])
    · exact .kept (by rw [slotAt_onSlot, if_neg hk, slotAt_dequeue])
  | cleared => exact .vacated (slotAt_vacatedAll s k)
  | restated f hf =>
    by_cases hk : f.slot = k
    · subst hk
      cases hr : recordAt s f.slot with
      | none =>
        have hr' : (slotAt s f.slot).record = none := hr
        have hr'' : (slotAt { s with flight := none } f.slot).record = none := hr
        exact .kept (by rw [slotAt_onRecord, if_pos rfl, hr'', Option.map_none, ← hr']; rfl)
      | some r => exact .restated r hr rfl (slotAt_onRecord_of_some (s := { s with flight := none }) hr _)
    · exact .kept (by rw [slotAt_onRecord, if_neg hk]; rfl)
  | stored f r hf hr hgen hunchanged =>
    by_cases hk : f.slot = k
    · subst hk
      exact .stored f r hf rfl hr hgen hunchanged rfl (slotAt_onRecord_of_some (s := { s with flight := none }) hr _)
    · exact .kept (by rw [slotAt_onRecord, if_neg hk]; rfl)
  | notices _ h | aside h | contexts _ h => exact hkept (congrArg State.slots h :)
  | enqueued i => exact hkept (enqueue_slots i s)
  | assembled link => cases link <;> exact hkept rfl
  | _ => exact hkept rfl

theorem recordAt_of_slotAt {s : State} {k : SlotId} {g : Byte} {x : Option Record}
    (h : slotAt s k = { generation := g, record := x }) : recordAt s k = x := by rw [recordAt, h]

theorem record_vacate (sl : Slot) : (vacate sl).record = none := by
  unfold vacate; split
  · rfl
  · next h => exact h

theorem recordAt_of_vacated {t : State} {k : SlotId} {sl : Slot} (h : slotAt t k = vacate sl) : recordAt t k = none := by
  rw [recordAt, h, record_vacate]

/-- A property of a record that every move keeps, and the storing of results, is kept by an elementary change. -/
theorem records_change {P : Record → Prop} {s t : State} (h : Change s t)
    (hmove : ∀ b r r', RecordMove b r r' → P r → P r') (hrestated : ∀ r, P r → P { r with changedInFlight := false })
    (hstored : ∀ (f : Flight) (r : Record), P r → P (stored (evaluate f.reads f.te) r)) (hs : ∀ i, ∀ r ∈ recordAt s i, P r) :
    ∀ i, ∀ r ∈ recordAt t i, P r := by
  intro i r hr
  cases h.slot i with
  | kept e => exact hs i r (by rw [recordAt, ← e]; exact hr)
  | record q q' hq hqmove e =>
    obtain rfl := Option.some.inj ((recordAt_of_slotAt e).symm.trans hr)
    exact hmove _ q q' hqmove (hs i q hq)
  | vacated e => rw [recordAt_of_vacated e] at hr; exact absurd hr nofun
  | restated q hq _ e =>
    obtain rfl := Option.some.inj ((recordAt_of_slotAt e).symm.trans hr)
    exact hrestated q (hs i q hq)
  | stored f q _ _ hq _ _ _ e =>
    obtain rfl := Option.some.inj ((recordAt_of_slotAt e).symm.trans hr)
    exact hstored f q (hs i q hq)

/-- The records after a CHECK_IN has created one. -/
theorem recordAt_created {s : State} {i k : SlotId} {q r : Record}
    (hr : recordAt (onSlot i (fun sl => { sl with record := some q }) s) k = some r) :
    (k = i ∧ r = q) ∨ (k ≠ i ∧ recordAt s k = some r) := by
  unfold recordAt at hr
  rw [slotAt_onSlot] at hr
  split at hr
  · next hk => exact .inl ⟨hk.symm, (Option.some.inj hr).symm⟩
  · next hk => exact .inr ⟨Ne.symm hk, hr⟩

/-! ### The reported fields (R39, R45) -/

/-- The reported fields of a record are in R39's ranges. -/
def ReportBounded (r : Record) : Prop :=
  r.distance ≤ 4000 ∧ (∀ v ∈ r.speed, v ≤ 300) ∧ (∀ w ∈ r.dwell, w ≤ 1200) ∧ (∀ d ∈ r.deviation, -600 ≤ d ∧ d ≤ 600)
    ∧ ∀ o ∈ r.occupancy, o ≤ 150

theorem recordBounded_iff (r : Record) : RecordBounded r ↔
    realVehicle r.vehicle = true ∧ ReportBounded r ∧ r.score ≤ 1023 ∧ (r.cls = .forced → r.score = 1023) := by
  simp only [RecordBounded, ReportBounded, and_assoc]

theorem storedSpeed_le {v : Half} {x : Nat} (h : x ∈ storedSpeed v) : x ≤ 300 := by
  unfold storedSpeed at h
  split at h
  · exact absurd h nofun
  · have := Option.some.inj h; omega

theorem storedDwell_le (w : Half) : storedDwell w ≤ 1200 := Nat.min_le_right ..

theorem storedOccupancy_le (o : Byte) : storedOccupancy o ≤ 150 := Nat.min_le_right ..

theorem storedDeviation_mem (e : Half) : -600 ≤ storedDeviation e ∧ storedDeviation e ≤ 600 :=
  clamp_mem (by decide) _

theorem storedClass_ne_forced (c : Byte) : storedClass c ≠ .forced := by
  unfold storedClass; split
  · decide
  · split <;> decide

/-- Reported fields taken from a CHECK_IN, or carried by an UPDATE over the old ones, are in their ranges. -/
theorem mem_map_of_forall {α β : Type} {f : α → β} {P : β → Prop} (h : ∀ a, P (f a)) (x : Option α) : ∀ b ∈ x.map f, P b := by
  cases x with
  | none => simp
  | some a => simpa using h a

theorem mem_orElse_of_forall {β : Type} {P : β → Prop} {x y : Option β} (hx : ∀ b ∈ x, P b) (hy : ∀ b ∈ y, P b) :
    ∀ b ∈ (x <|> y), P b := by
  cases x with
  | none => simpa using hy
  | some a => simpa using hx

theorem recordBounded_newRecord (s : State) (m : CheckInMsg) (k : CheckedKey) (h : realVehicle m.vehicle = true) :
    RecordBounded (newRecord s m k) := by
  rw [recordBounded_iff]
  refine ⟨h, ⟨Nat.min_le_right .., fun _ => storedSpeed_le, ?_, ?_, ?_⟩, Nat.zero_le _,
    fun hf => absurd hf (storedClass_ne_forced _)⟩
  · exact mem_map_of_forall storedDwell_le _
  · exact mem_map_of_forall storedDeviation_mem _
  · exact mem_map_of_forall storedOccupancy_le _

theorem recordBounded_refreshed (s : State) (m : CheckInMsg) (k : CheckedKey) (b : Bool) {r : Record}
    (h : RecordBounded r) : RecordBounded (Machine.refreshed s m k b r) := by
  rw [recordBounded_iff] at h ⊢
  obtain ⟨hreal, -, hscore, -⟩ := h
  refine ⟨hreal, ⟨Nat.min_le_right .., fun _ => storedSpeed_le, ?_, ?_, ?_⟩, ?_,
    fun hf => absurd hf (storedClass_ne_forced _)⟩
  · exact mem_map_of_forall storedDwell_le _
  · exact mem_map_of_forall storedDeviation_mem _
  · exact mem_map_of_forall storedOccupancy_le _
  · change refreshedScore r ≤ 1023
    unfold refreshedScore; split <;> omega

theorem recordBounded_updated (s : State) (m : UpdateMsg) (b : Bool) {r : Record} (h : RecordBounded r) :
    RecordBounded (updated s m b r) := by
  rw [recordBounded_iff] at h ⊢
  obtain ⟨hreal, ⟨hdistance, hspeed, hdwell, hdeviation, hoccupancy⟩, hscore⟩ := h
  refine ⟨hreal, ⟨?_, ?_, ?_, ?_, ?_⟩, hscore⟩
  · change (m.distance.map storedDistance).getD r.distance ≤ 4000
    cases m.distance with
    | none => exact hdistance
    | some d => exact Nat.min_le_right ..
  · change ∀ v ∈ (m.speed.map storedSpeed).getD r.speed, v ≤ 300
    cases m.speed with
    | none => exact hspeed
    | some v => exact fun _ => storedSpeed_le
  · exact mem_orElse_of_forall (mem_map_of_forall storedDwell_le _) hdwell
  · exact mem_orElse_of_forall (mem_map_of_forall storedDeviation_mem _) hdeviation
  · exact mem_orElse_of_forall (mem_map_of_forall storedOccupancy_le _) hoccupancy

theorem recordBounded_of_move {b : Bool} {r r' : Record} (h : RecordMove b r r') (hr : RecordBounded r) :
    RecordBounded r' := by
  cases h with
  | status | marked => exact hr
  | refreshed s m k => exact recordBounded_refreshed s m k b hr
  | updated s m => exact recordBounded_updated s m b hr
  | forced =>
    rw [recordBounded_iff] at hr ⊢
    obtain ⟨hreal, hreport, -, -⟩ := hr
    exact ⟨hreal, hreport, le_rfl, fun _ => rfl⟩

theorem recordBounded_stored (f : Flight) {r : Record} (hr : RecordBounded r) :
    RecordBounded (stored (evaluate f.reads f.te) r) := by
  rw [recordBounded_iff] at hr ⊢
  obtain ⟨hreal, hreport, -, -⟩ := hr
  refine ⟨hreal, hreport, ?_, fun hf => if_pos hf⟩
  change completedScore r.cls _ ≤ 1023
  unfold completedScore
  split
  · exact le_rfl
  · exact scoreOf_le ..

theorem recordsBounded_change {s t : State} (h : Change s t) (hs : RecordsBounded s) : RecordsBounded t :=
  records_change h (fun _ _ _ => recordBounded_of_move) (fun _ hr => hr) (fun f _ => recordBounded_stored f) hs

theorem recordAt_poweredOn (s : State) (i : SlotId) : recordAt (poweredOn s) i = none := by
  rw [recordAt, slotAt_poweredOn]

theorem recordsBounded_poweredOn (s : State) : RecordsBounded (poweredOn s) := fun i r hr => by
  rw [recordAt_poweredOn] at hr; exact absurd hr nofun

theorem step_keeps_recordsBounded {s t : State} (hs : RecordsBounded s) (h : step s = .next t) : RecordsBounded t := by
  refine step_keeps (fun _ _ h => h) recordsBounded_poweredOn (fun _ h => h) (fun _ _ => recordsBounded_change)
    (fun u m k i hu _ hreal _ x r hr => ?_) hs h
  obtain ⟨-, rfl⟩ | ⟨-, hr⟩ := recordAt_created hr
  · exact recordBounded_newRecord u m k hreal
  · exact hu x r hr

/-! ### The evaluation queue and the changed-in-flight flag (R41, R91) -/

theorem inFlight_eq_true_iff {s : State} {i : SlotId} :
    inFlight s i = true ↔ ∃ f, s.flight = some f ∧ f.slot = i ∧ f.generation = (slotAt s i).generation := by
  unfold inFlight
  cases s.flight with
  | none => simp
  | some f => simp

theorem inFlight_congr {s t : State} {i : SlotId} (hflight : t.flight = s.flight)
    (hgen : (slotAt t i).generation = (slotAt s i).generation) : inFlight t i = inFlight s i := by
  unfold inFlight; rw [hflight, hgen]

/-- The length bound of the queue follows from its entries being different. -/
theorem queueSound_iff (s : State) : QueueSound s ↔
    s.evalQueue.Nodup ∧ (∀ i ∈ s.evalQueue, (recordAt s i).isSome = true)
      ∧ ∀ i, ∀ r ∈ recordAt s i, r.changedInFlight = true → inFlight s i = true := by
  refine ⟨fun ⟨hnodup, _, h⟩ => ⟨hnodup, h⟩, fun ⟨hnodup, h⟩ => ⟨hnodup, ?_, h⟩⟩
  simpa using hnodup.length_le_card

/-- A move of a record sets the flag only while the slot's evaluation is in flight. -/
theorem changedInFlight_of_move {b : Bool} {r r' : Record} (h : RecordMove b r r') (hr' : r'.changedInFlight = true) :
    r.changedInFlight = true ∨ b = true := by
  cases h with
  | status | forced => exact .inl hr'
  | marked h => exact .inr h
  | refreshed | updated => exact Bool.or_eq_true_iff.mp hr'

/-- With no evaluation of a slot in flight its record has no flag. -/
theorem not_changedInFlight {s : State} (hs : QueueSound s) {i : SlotId} {r : Record} (hr : recordAt s i = some r)
    (h : inFlight s i = false) : r.changedInFlight = false := by
  obtain ⟨-, -, -, hflag⟩ := hs
  cases hc : r.changedInFlight with
  | false => rfl
  | true => exact absurd (hflag i r hr hc) (by simp [h])

theorem queueSound_enqueue (i : SlotId) {s : State} (hs : QueueSound s) : QueueSound (enqueue i s) := by
  rw [queueSound_iff] at hs ⊢
  obtain ⟨hnodup, hoccupied, hflag⟩ := hs
  simp only [recordAt_enqueue]
  refine ⟨?_, ?_, fun k r hr hc => ?_⟩
  · unfold enqueue
    split
    · exact hnodup
    · next h => exact List.nodup_append.mpr ⟨hnodup, by simp, by simpa using fun k hk (e : k = i) => h (.inl (e ▸ hk))⟩
  · unfold enqueue
    split
    · exact hoccupied
    · next h =>
      simp only [List.mem_append, List.mem_singleton]
      rintro k (hk | rfl)
      · exact hoccupied k hk
      · exact Option.isSome_iff_ne_none.mpr fun h' => h (.inr (by simp [h']))
  · rw [inFlight_congr (enqueue_flight i s) (by rw [slotAt_enqueue])]
    exact hflag k r hr hc

theorem generation_of_slotMove {s t : State} {i : SlotId} (h : SlotMove s t i) :
    (slotAt t i).generation = (slotAt s i).generation := by
  cases h with
  | kept h => rw [h]
  | record _ _ _ _ h => rw [h]

theorem isSome_of_slotMove {s t : State} {i : SlotId} (h : SlotMove s t i) :
    (recordAt t i).isSome = (recordAt s i).isSome := by
  cases h with
  | kept h => rw [recordAt, h, ← recordAt]
  | record _ _ hr _ h => rw [recordAt_of_slotAt h, hr]; rfl

theorem queueSound_records {s t : State} (hmove : ∀ i, SlotMove s t i) (hqueue : t.evalQueue = s.evalQueue)
    (hflight : t.flight = s.flight) (hs : QueueSound s) : QueueSound t := by
  rw [queueSound_iff] at hs ⊢
  obtain ⟨hnodup, hoccupied, hflag⟩ := hs
  refine ⟨hqueue ▸ hnodup, fun i hi => ?_, fun i r hr hc => ?_⟩
  · rw [isSome_of_slotMove (hmove i)]
    exact hoccupied i (hqueue ▸ hi)
  · rw [inFlight_congr hflight (generation_of_slotMove (hmove i))]
    cases hmove i with
    | kept h => exact hflag i r (by rw [recordAt, ← h]; exact hr) hc
    | record q q' hq hmove h =>
      obtain rfl := Option.some.inj ((recordAt_of_slotAt h).symm.trans hr)
      obtain h | h := changedInFlight_of_move hmove hc
      · exact hflag i q hq h
      · exact h

theorem queueSound_vacated (i : SlotId) {s : State} (hs : QueueSound s) : QueueSound (onSlot i vacate (dequeue i s)) := by
  rw [queueSound_iff] at hs ⊢
  obtain ⟨hnodup, hoccupied, hflag⟩ := hs
  have hother : ∀ k, k ≠ i → slotAt (onSlot i vacate (dequeue i s)) k = slotAt s k := fun k hk => by
    rw [slotAt_onSlot, if_neg (Ne.symm hk), slotAt_dequeue]
  refine ⟨hnodup.erase i, fun k hk => ?_, fun k r hr hc => ?_⟩
  · have hk : k ∈ s.evalQueue.erase i := hk
    obtain ⟨hne, hmem⟩ := hnodup.mem_erase_iff.mp hk
    rw [recordAt, hother k hne]
    exact hoccupied k hmem
  · by_cases hk : k = i
    · subst hk
      rw [recordAt_of_vacated (by rw [slotAt_onSlot_same])] at hr
      exact absurd hr nofun
    · have hsame : inFlight (onSlot i vacate (dequeue i s)) k = inFlight s k :=
        inFlight_congr rfl (congrArg Slot.generation (hother k hk))
      rw [hsame]
      exact hflag k r (by rw [recordAt, ← hother k hk]; exact hr) hc

/-- The end of the evaluation in flight, where its slot's record is left without the flag. -/
theorem queueSound_landed {s t : State} (hslots : ∀ i, (recordAt t i).isSome = (recordAt s i).isSome)
    (hqueue : t.evalQueue = s.evalQueue) (hflag : ∀ i, ∀ r ∈ recordAt t i, r.changedInFlight = false)
    (hs : QueueSound s) : QueueSound t := by
  rw [queueSound_iff] at hs ⊢
  obtain ⟨hnodup, hoccupied, -⟩ := hs
  exact ⟨hqueue ▸ hnodup, fun i hi => (hslots i).trans (hoccupied i (hqueue ▸ hi)),
    fun i r hr hc => absurd hc (by simp [hflag i r hr])⟩

/-- The records of another slot than the one in flight have no flag. -/
theorem not_changedInFlight_of_ne {s : State} (hs : QueueSound s) {f : Flight} (hf : s.flight = some f) {i : SlotId}
    {r : Record} (hr : recordAt s i = some r)
    (hne : f.slot ≠ i ∨ (slotAt s i).generation ≠ f.generation) : r.changedInFlight = false := by
  refine not_changedInFlight hs hr (Bool.eq_false_iff.mpr fun h => ?_)
  obtain ⟨f', hf', hslot, hgen⟩ := inFlight_eq_true_iff.mp h
  obtain rfl := Option.some.inj (hf.symm.trans hf')
  obtain h | h := hne
  · exact h hslot
  · exact h hgen.symm

theorem queueSound_change {s t : State} (h : Change s t) (hs : QueueSound s) : QueueSound t := by
  have hkept : ∀ {u : State}, u.slots = s.slots → u.evalQueue = s.evalQueue → u.flight = s.flight → QueueSound u :=
    fun hslots hqueue hflight => queueSound_records (fun i => .kept (slotAt_congr hslots i)) hqueue hflight hs
  cases h with
  | enqueued i => exact queueSound_enqueue i hs
  | shortened q hq =>
    rw [queueSound_iff] at hs ⊢
    obtain ⟨hnodup, hoccupied, hflag⟩ := hs
    exact ⟨hnodup.sublist hq, fun i hi => hoccupied i (hq.subset hi), hflag⟩
  | records hmove h =>
    exact queueSound_records hmove (congrArg State.evalQueue h :) (congrArg State.flight h :) hs
  | vacated i => exact queueSound_vacated i hs
  | cleared =>
    rw [queueSound_iff]
    refine ⟨List.nodup_nil, by simp, fun i r hr => ?_⟩
    rw [recordAt_of_vacated (slotAt_vacatedAll s i)] at hr
    exact absurd hr nofun
  | started i rest r now hidle hq hr =>
    have hnone : ∀ k, ∀ q ∈ recordAt s k, q.changedInFlight = false := fun k q hk =>
      not_changedInFlight hs hk (by simp [inFlight, hidle])
    rw [queueSound_iff] at hs ⊢
    obtain ⟨hnodup, hoccupied, hflag⟩ := hs
    rw [hq] at hnodup hoccupied
    exact ⟨hnodup.of_cons, fun k hk => hoccupied k (List.mem_cons_of_mem _ hk),
      fun k q hk hc => absurd hc (by simp [hnone k q hk])⟩
  | lost f hf h =>
    refine queueSound_landed (s := s) (fun _ => rfl) rfl (fun i r hr => ?_) hs
    have hr : recordAt s i = some r := hr
    by_cases hi : f.slot = i
    · subst hi
      obtain h | h := h
      · exact absurd (h.symm.trans hr) nofun
      · exact not_changedInFlight_of_ne hs hf hr (.inr h)
    · exact not_changedInFlight_of_ne hs hf hr (.inl hi)
  | restated f hf =>
    refine queueSound_landed (s := s) (fun i => ?_) rfl (fun i r hr => ?_) hs
    · rw [recordAt_onRecord]
      split
      · exact Option.isSome_map
      · rfl
    · rw [recordAt_onRecord] at hr
      split at hr
      · obtain ⟨q, -, rfl⟩ := Option.map_eq_some_iff.mp hr
        rfl
      · next hi => exact not_changedInFlight_of_ne hs hf hr (.inl hi)
  | stored f r hf hr hgen hunchanged =>
    refine queueSound_landed (s := s) (fun i => ?_) rfl (fun i q hq => ?_) hs
    · rw [recordAt_onRecord]
      split
      · exact Option.isSome_map
      · rfl
    · rw [recordAt_onRecord] at hq
      split at hq
      · next hi =>
        subst hi
        obtain ⟨q', hq', rfl⟩ := Option.map_eq_some_iff.mp hq
        obtain rfl := Option.some.inj (hr.symm.trans hq')
        exact hunchanged
      · next hi => exact not_changedInFlight_of_ne hs hf hq (.inl hi)
  | notices _ h | aside h | contexts _ h =>
    exact hkept (congrArg State.slots h :) (congrArg State.evalQueue h :) (congrArg State.flight h :)
  | assembled link => cases link <;> exact hkept rfl rfl rfl
  | _ => exact hkept rfl rfl rfl

theorem queueSound_poweredOn (s : State) : QueueSound (poweredOn s) :=
  (queueSound_iff _).mpr ⟨List.nodup_nil, by simp [poweredOn, State.reset], fun i r hr => by
    rw [recordAt_poweredOn] at hr; exact absurd hr nofun⟩

theorem step_keeps_queueSound {s t : State} (hs : QueueSound s) (h : step s = .next t) : QueueSound t := by
  refine step_keeps (fun _ _ h => h) queueSound_poweredOn (fun _ h => h) (fun _ _ => queueSound_change)
    (fun u m k i hu hvacant _ _ => ?_) hs h
  rw [queueSound_iff] at hu ⊢
  obtain ⟨hnodup, hoccupied, hflag⟩ := hu
  have hother : ∀ x, x ≠ i → slotAt (onSlot i (fun sl => { sl with record := some (newRecord u m k) }) u) x = slotAt u x :=
    fun x hx => by rw [slotAt_onSlot, if_neg (Ne.symm hx)]
  refine ⟨hnodup, fun x hx => ?_, fun x r hr hc => ?_⟩
  · have hne : x ≠ i := by rintro rfl; simpa [hvacant] using hoccupied x hx
    rw [recordAt, hother x hne]
    exact hoccupied x hx
  · obtain ⟨-, rfl⟩ | ⟨hne, hr⟩ := recordAt_created hr
    · exact absurd hc (by simp [newRecord])
    · have hsame : inFlight (onSlot i (fun sl => { sl with record := some (newRecord u m k) }) u) x = inFlight u x :=
        inFlight_congr rfl (congrArg Slot.generation (hother x hne))
      rw [hsame]
      exact hflag x r hr hc

/-! ### The results of an evaluation (R40, R42) -/

/-- The results of a record are in their ranges. -/
def ResultBounded (r : Record) : Prop :=
  (r.cls ≠ .forced → r.score ≤ 1022) ∧ (∀ f ∈ r.forecast, ForecastBounded f) ∧ ∀ d ∈ r.decision, DecisionBounded d

/-- The evaluation in flight read values in their ranges, and class 3 only of a record that still has it or is marked. -/
def FlightBounded (s : State) : Prop :=
  ∀ f ∈ s.flight, ReadsBounded f.reads
    ∧ ∀ r ∈ recordAt s f.slot, (slotAt s f.slot).generation = f.generation → r.changedInFlight = false →
        f.reads.cls = .forced → r.cls = .forced

theorem resultsBounded_iff (s : State) :
    ResultsBounded s ↔ (∀ i, ∀ r ∈ recordAt s i, ResultBounded r) ∧ FlightBounded s := Iff.rfl

theorem forecastBounded_forecastOf {r : Reads} (te : Time) (h : ReadsBounded r) : ForecastBounded (forecastOf r te) := by
  obtain ⟨⟨hlow, hhigh⟩, hguard, -, -⟩ := h
  cases htravel : travelTime r with
  | none => rw [forecastOf_of_no_travelTime te htravel]; trivial
  | some x =>
    rw [forecastOf_of_travelTime te htravel]
    dsimp only
    split
    · change 300 < _
      omega
    split
    · refine ⟨?_, ?_, ?_, ?_⟩ <;> omega
    · refine ⟨?_, ?_, ?_, ?_, ?_⟩ <;> omega

/-- The maximums of a step of a bounded plan, counted on past the last step. -/
theorem stepAt_maximums_le {steps : List PlanStep} (h : ∀ st ∈ steps, st.maxExtension ≤ 400 ∧ st.maxAdvance ≤ 400)
    (i : Nat) : (stepAt steps i).maxExtension ≤ 400 ∧ (stepAt steps i).maxAdvance ≤ 400 := by
  unfold stepAt
  rw [List.getD_eq_getElem?_getD]
  cases hstep : steps[i % steps.length]? with
  | none => simp
  | some st => exact h st (List.mem_of_getElem? hstep)

theorem decisionBounded_of_fits {r : Reads} {te : Time} {k : Nat} {d : DecisionKind} (h : ReadsBounded r)
    (hfits : DecisionFits r (walkOf r te k) d) : DecisionBounded { kind := d, time := te } := by
  obtain ⟨-, -, hmin, hplan⟩ := h
  have hsteps : ∀ st ∈ (r.plan.map Plan.steps).getD [], st.maxExtension ≤ 400 ∧ st.maxAdvance ≤ 400 := by
    cases hp : r.plan with
    | none => simp
    | some p => exact hplan p hp
  obtain ⟨hext, hadv⟩ := stepAt_maximums_le hsteps k
  have hslack := (walkOf_extensionSlack_le r te k).1
  have hslacks := (walkOf_advanceSlacks_le r te k).1
  cases d with
  | extend n p =>
    obtain ⟨hlow, hhigh, -⟩ := hfits
    exact ⟨hmin.trans hlow, hhigh.trans (hslack.trans hext)⟩
  | advance n p =>
    obtain ⟨hlow, hhigh, -⟩ := hfits
    exact ⟨hmin.trans hlow, hhigh.trans (hslacks.trans hadv)⟩
  | _ => trivial

/-- A decision handed over for storing is in its range. -/
theorem decisionBounded_decisionOf {r : Reads} {te : Time} {d : Decision} (h : ReadsBounded r)
    (hd : (decisionOf r te).1 = .store d) : DecisionBounded d := by
  unfold decisionOf at hd
  dsimp only at hd
  split at hd
  · exact absurd hd nofun
  · split at hd
    · obtain rfl := DecisionUpdate.store.inj hd
      trivial
    · next k _ =>
      split at hd
      · exact absurd hd nofun
      · obtain rfl := DecisionUpdate.store.inj hd
        exact decisionBounded_of_fits h (decisionFits_decisionCase ..)

theorem resultBounded_stored {f : Flight} {r : Record} (h : ReadsBounded f.reads)
    (hcls : f.reads.cls = .forced → r.cls = .forced) (hr : ResultBounded r) :
    ResultBounded (stored (evaluate f.reads f.te) r) := by
  refine ⟨fun hnot => ?_, fun x hx => ?_, fun d hd => ?_⟩
  · have hnot : r.cls ≠ .forced := hnot
    change completedScore r.cls _ ≤ 1022
    rw [completedScore, if_neg hnot]
    exact scoreOf_le_of_not_forced _ fun h' => hnot (hcls h')
  · obtain rfl := Option.some.inj hx
    exact forecastBounded_forecastOf f.te h
  · have hd : completedDecision r.decision (decisionOf f.reads f.te).1 = some d := hd
    cases hu : (decisionOf f.reads f.te).1 with
    | clear => rw [hu] at hd; exact absurd hd nofun
    | keep => rw [hu] at hd; exact hr.2.2 d hd
    | store d' =>
      rw [hu] at hd
      obtain rfl := Option.some.inj hd
      exact decisionBounded_decisionOf h hu

theorem resultBounded_of_move {b : Bool} {r r' : Record} (h : RecordMove b r r') (hr : ResultBounded r) :
    ResultBounded r' := by
  obtain ⟨hscore, hforecast, hdecision⟩ := hr
  cases h with
  | status | marked | updated => exact ⟨hscore, hforecast, hdecision⟩
  | refreshed s m k =>
    refine ⟨fun _ => ?_, hforecast, hdecision⟩
    change refreshedScore r ≤ 1022
    unfold refreshedScore
    split
    · exact Nat.zero_le _
    · next h => exact hscore h
  | forced => exact ⟨fun h => absurd rfl h, hforecast, hdecision⟩

/-- The class of a record in flight that has moved is the one that was read, or it is marked. -/
theorem forced_of_move {r r' : Record} (h : RecordMove true r r') (hunchanged : r'.changedInFlight = false) :
    (r.changedInFlight = false ∧ (r.cls = .forced → r'.cls = .forced)) := by
  cases h with
  | status => exact ⟨hunchanged, id⟩
  | marked => exact absurd hunchanged nofun
  | refreshed | updated => exact absurd hunchanged (by simp [Machine.refreshed, updated])
  | forced => exact ⟨hunchanged, fun _ => rfl⟩

theorem readsBounded_readsOf {s : State} (r : Record) (hpolicy : PolicyBounded s.policy) (hclocks : ClocksSound s) :
    ReadsBounded (readsOf s r) := by
  obtain ⟨hhorizon, hguard, -, -, ⟨hmin, -⟩, -⟩ := hpolicy
  refine ⟨hhorizon, hguard, hmin, fun p hp st hst => ?_⟩
  obtain ⟨hactive, -⟩ := hclocks r.junction
  obtain ⟨-, -, -, hsteps, -⟩ := hactive p hp
  obtain ⟨-, -, -, hext, hadv, -⟩ := hsteps st hst
  exact ⟨hext, hadv⟩

/-- What happens to the evaluator: it stays, it lands, or it starts. -/
theorem Change.flight_move {s t : State} (h : Change s t) : t.flight = s.flight ∨ t.flight = none
    ∨ ∃ (i : SlotId) (r : Record) (now : Time), recordAt s i = some r ∧ (∀ k, slotAt t k = slotAt s k)
      ∧ t.flight = some { slot := i, generation := (slotAt s i).generation, te := now, reads := readsOf s r } := by
  cases h with
  | started i rest r now _ _ hr => exact .inr (.inr ⟨i, r, now, hr, fun _ => rfl, rfl⟩)
  | lost | restated | stored => exact .inr (.inl rfl)
  | notices _ h | aside h | contexts _ h | records _ h => exact .inl (congrArg State.flight h :)
  | enqueued i => exact .inl (enqueue_flight i s)
  | assembled link => cases link <;> exact .inl rfl
  | _ => exact .inl rfl

theorem flightBounded_change {s t : State} (h : Change s t) (hpolicy : PolicyBounded s.policy) (hclocks : ClocksSound s)
    (hs : FlightBounded s) : FlightBounded t := by
  intro f hf
  obtain hsame | hnone | ⟨i, r, now, hr, hslots, hstart⟩ := h.flight_move
  · have hf : s.flight = some f := hsame ▸ hf
    obtain ⟨hreads, hcls⟩ := hs f hf
    refine ⟨hreads, fun r hr hgen hunchanged => ?_⟩
    cases h.slot f.slot with
    | kept e =>
      rw [e] at hgen
      exact hcls r (by rw [recordAt, ← e]; exact hr) hgen hunchanged
    | record q q' hq hmove e =>
      rw [e] at hgen
      obtain rfl := Option.some.inj ((recordAt_of_slotAt e).symm.trans hr)
      rw [inFlight_eq_true_iff.mpr ⟨f, hf, rfl, hgen.symm⟩] at hmove
      obtain ⟨hunchanged', hforced⟩ := forced_of_move hmove hunchanged
      exact fun hread => hforced (hcls q hq hgen hunchanged' hread)
    | vacated e => rw [recordAt_of_vacated e] at hr; exact absurd hr nofun
    | restated _ _ hlanded => exact absurd (hlanded.symm.trans (hsame.trans hf)) nofun
    | stored _ _ _ _ _ _ _ hlanded => exact absurd (hlanded.symm.trans (hsame.trans hf)) nofun
  · exact absurd (hnone.symm.trans hf) nofun
  · obtain rfl := Option.some.inj (hstart.symm.trans hf)
    refine ⟨readsBounded_readsOf r hpolicy hclocks, fun q hq _ _ hread => ?_⟩
    have hq : recordAt s i = some q := by rw [recordAt, ← hslots]; exact hq
    obtain rfl := Option.some.inj (hr.symm.trans hq)
    exact hread

theorem resultsBounded_change {s t : State} (h : Change s t) (hpolicy : PolicyBounded s.policy) (hclocks : ClocksSound s)
    (hs : ResultsBounded s) : ResultsBounded t := by
  rw [resultsBounded_iff] at hs ⊢
  obtain ⟨hrecords, hflight⟩ := hs
  refine ⟨fun i r hr => ?_, flightBounded_change h hpolicy hclocks hflight⟩
  cases h.slot i with
  | kept e => exact hrecords i r (by rw [recordAt, ← e]; exact hr)
  | record q q' hq hmove e =>
    obtain rfl := Option.some.inj ((recordAt_of_slotAt e).symm.trans hr)
    exact resultBounded_of_move hmove (hrecords i q hq)
  | vacated e => rw [recordAt_of_vacated e] at hr; exact absurd hr nofun
  | restated q hq _ e =>
    obtain rfl := Option.some.inj ((recordAt_of_slotAt e).symm.trans hr)
    exact hrecords i q hq
  | stored f q hf hk hq hgen hunchanged _ e =>
    obtain rfl := Option.some.inj ((recordAt_of_slotAt e).symm.trans hr)
    obtain ⟨hreads, hcls⟩ := hflight f hf
    subst hk
    exact resultBounded_stored hreads (hcls q hq hgen hunchanged) (hrecords _ q hq)

/-- The results, with what keeps the values an evaluation reads in their ranges. -/
def ResultsSupplied (s : State) : Prop := RecoveryBounded s ∧ ClocksSound s ∧ ResultsBounded s

theorem resultsSupplied_change {s t : State} (h : Change s t) (hs : ResultsSupplied s) : ResultsSupplied t := by
  obtain ⟨hrecovery, hclocks, hresults⟩ := hs
  exact ⟨recoveryBounded_change h hrecovery, clocksSound_change h hclocks,
    resultsBounded_change h hrecovery.1 hclocks hresults⟩

/-- A created record has no results, and no evaluation in flight is of it: its slot's generation is another. -/
theorem resultsBounded_created {u : State} {m : CheckInMsg} {k : CheckedKey} {i : SlotId} (hvacant : recordAt u i = none)
    (hapart : GenerationsApart u) (hu : ResultsBounded u) :
    ResultsBounded (onSlot i (fun sl => { sl with record := some (newRecord u m k) }) u) := by
  rw [resultsBounded_iff] at hu ⊢
  obtain ⟨hrecords, hflight⟩ := hu
  refine ⟨fun x r hr => ?_, fun f hf => ?_⟩
  · obtain ⟨-, rfl⟩ | ⟨-, hr⟩ := recordAt_created hr
    · exact ⟨fun _ => Nat.zero_le _, by simp [newRecord], by simp [newRecord]⟩
    · exact hrecords x r hr
  · have hf : u.flight = some f := hf
    obtain ⟨hreads, hcls⟩ := hflight f hf
    refine ⟨hreads, fun r hr hgen hunchanged => ?_⟩
    rw [slotAt_onSlot] at hgen
    obtain ⟨hk, rfl⟩ | ⟨hk, hr⟩ := recordAt_created hr
    · rw [if_pos hk.symm] at hgen
      exact absurd hgen (hapart f hf (hk ▸ hvacant))
    · rw [if_neg (Ne.symm hk)] at hgen
      exact hcls r hr hgen hunchanged

theorem resultsBounded_poweredOn (s : State) : ResultsBounded (poweredOn s) :=
  ⟨fun i r hr => by rw [recordAt_poweredOn] at hr; exact absurd hr nofun, by simp [poweredOn, State.reset]⟩

theorem step_keeps_resultsBounded {s t : State} (hrecovery : RecoveryBounded s) (hclocks : ClocksSound s)
    (hresults : ResultsBounded s) (hapart : GenerationsApart s) (h : step s = .next t) : ResultsBounded t := by
  obtain rfl | ⟨c, rest, -, hexec⟩ := step_cases h
  · exact hresults
  have hs : ResultsSupplied { s with pending := rest } := ⟨hrecovery, hclocks, hresults⟩
  obtain ⟨-, rfl⟩ | ⟨-, rfl⟩ | hrun | ⟨u, m, k, i, hrun, hslots, hflight, hvacant, -, -, rfl⟩ := exec_cases hexec
  · exact resultsBounded_poweredOn _
  · exact hresults
  · exact (hrun.keeps (fun _ _ => resultsSupplied_change) hs).2.2
  · obtain ⟨hrecovery', hclocks', hresults'⟩ := hrun.keeps (fun _ _ => resultsSupplied_change) hs
    have hapart' : GenerationsApart u := fun f hf => by
      rw [recordAt_congr hslots, slotAt_congr hslots]
      exact hapart f (hflight ▸ hf)
    have hcreated : ResultsSupplied (onSlot i (fun sl => { sl with record := some (newRecord u m k) }) u) :=
      ⟨hrecovery', hclocks', resultsBounded_created hvacant hapart' hresults'⟩
    exact (resultsSupplied_change (.enqueued i) hcreated).2.2

/-- Settles O8: the reported fields are clamped, the flag is set only while the evaluation is in flight, and the results
are worked out from values in their ranges. -/
theorem stepKeepsTheRecordsAndTheQueueSound : Obligations.StepKeepsTheRecordsAndTheQueueSound :=
  ⟨fun _ _ hrecords hqueue h => ⟨step_keeps_recordsBounded hrecords h, step_keeps_queueSound hqueue h⟩,
    fun _ _ hrecovery hclocks hresults hapart h => step_keeps_resultsBounded hrecovery hclocks hresults hapart h⟩

end Sys2Proof.Proofs

/-! The request table, the candidate orders and the grants as one table, and what keeps it consistent (R38, R80, R81, R85,
R104). A table is what these rules see of a state; each move below is one whole move of the part, which keeps the table
sound, its orders sorted and its grants in range. -/

namespace Sys2Proof.Proofs

open Sys2Proof.Machine Sys2Proof.Safety Sys2Proof.Laws

/-! ### The table a state holds -/

/-- What the rules of the orders and the grants see of a junction. -/
structure Desk where
  live : Bool
  localMode : Option LocalMode
  steps : Nat
  candidates : List SlotId
  grant : Option Grant
  outstanding : Option Outstanding

/-- What they see of a record. -/
structure Entry where
  junction : JunctionId
  status : RecordState
  decision : Option Decision
  score : Nat
  checkInTime : Time

/-- What they see of a slot. -/
structure Seat where
  generation : Byte
  entry : Option Entry

/-- What they see of a state. -/
structure Table where
  desk : JunctionId → Desk
  seat : SlotId → Seat

def deskOf (c : Junction) : Desk :=
  ⟨isLive c, c.localMode, (activeSteps c).length, c.candidates, c.grant, c.outstanding⟩

def entryOfRecord (r : Record) : Entry := ⟨r.junction, r.status, r.decision, r.score, r.checkInTime⟩

def seatOf (sl : Slot) : Seat := ⟨sl.generation, sl.record.map entryOfRecord⟩

def tableOf (s : State) : Table := ⟨fun j => deskOf (junctionAt s j), fun i => seatOf (slotAt s i)⟩

/-- One desk changed. -/
def Table.onDesk (j : JunctionId) (f : Desk → Desk) (T : Table) : Table :=
  { T with desk := Function.update T.desk j (f (T.desk j)) }

/-- One seat changed. -/
def Table.onSeat (i : SlotId) (f : Seat → Seat) (T : Table) : Table :=
  { T with seat := Function.update T.seat i (f (T.seat i)) }

@[simp] theorem desk_onDesk_same (j : JunctionId) (f : Desk → Desk) (T : Table) : (T.onDesk j f).desk j = f (T.desk j) :=
  Function.update_self ..

theorem desk_onDesk_ne {j k : JunctionId} (h : k ≠ j) (f : Desk → Desk) (T : Table) : (T.onDesk j f).desk k = T.desk k :=
  Function.update_of_ne h ..

@[simp] theorem seat_onDesk (j : JunctionId) (f : Desk → Desk) (T : Table) : (T.onDesk j f).seat = T.seat := rfl

@[simp] theorem desk_onSeat (i : SlotId) (f : Seat → Seat) (T : Table) : (T.onSeat i f).desk = T.desk := rfl

@[simp] theorem seat_onSeat_same (i : SlotId) (f : Seat → Seat) (T : Table) : (T.onSeat i f).seat i = f (T.seat i) :=
  Function.update_self ..

theorem seat_onSeat_ne {i k : SlotId} (h : k ≠ i) (f : Seat → Seat) (T : Table) : (T.onSeat i f).seat k = T.seat k :=
  Function.update_of_ne h ..

/-- Two changes of one desk are one. -/
theorem onDesk_onDesk (j : JunctionId) (f g : Desk → Desk) (T : Table) :
    (T.onDesk j f).onDesk j g = T.onDesk j fun d => g (f d) := by
  simp [Table.onDesk]

theorem onSeat_onSeat (i : SlotId) (f g : Seat → Seat) (T : Table) :
    (T.onSeat i f).onSeat i g = T.onSeat i fun x => g (f x) := by
  simp [Table.onSeat]

theorem onDesk_onSeat (j : JunctionId) (f : Desk → Desk) (i : SlotId) (g : Seat → Seat) (T : Table) :
    (T.onSeat i g).onDesk j f = (T.onDesk j f).onSeat i g := rfl

theorem onDesk_id (j : JunctionId) (T : Table) : T.onDesk j (fun d => d) = T := by simp [Table.onDesk]

/-- A change that leaves its desk as it is leaves the table. -/
theorem onDesk_of_fixed {j : JunctionId} {f : Desk → Desk} {T : Table} (h : f (T.desk j) = T.desk j) : T.onDesk j f = T := by
  simp [Table.onDesk, h]

theorem onSeat_id (i : SlotId) (T : Table) : T.onSeat i (fun x => x) = T := by simp [Table.onSeat]

/-! ### Soundness of a desk and its seats -/

/-- A record seeks or holds a grant (R19). -/
def Seeks (st : RecordState) : Prop := st = .candidate ∨ (tagOf st).isSome = true ∨ st = .riding

theorem seeksGrant_eq_false_iff (r : Record) : seeksGrant r = false ↔ ¬Seeks r.status := by
  unfold seeksGrant Seeks; cases r.status <;> simp [tagOf]

/-- The stored decision of an entry is EXTEND or ADVANCE. -/
def Decides (e : Entry) : Prop := ((e.decision.map Decision.kind).bind grantOf).isSome = true

/-- The order, the grant and the records of one junction agree (R80, R81, R85, R104). -/
structure DeskSound (T : Table) (j : JunctionId) : Prop where
  nodup : (T.desk j).candidates.Nodup
  exact : ∀ i, i ∈ (T.desk j).candidates ↔ ∃ e, (T.seat i).entry = some e ∧ e.junction = j ∧ e.status = .candidate
  decided : ∀ i e, (T.seat i).entry = some e → e.junction = j → e.status = .candidate → Decides e
  holder : ∀ g, (T.desk j).grant = some g → ∃ e, (T.seat g.slot).entry = some e ∧ e.junction = j
    ∧ (T.seat g.slot).generation = g.generation ∧ ∃ tag, tagOf e.status = some tag
      ∧ (T.desk j).outstanding = if g.accepted then none else some { kind := outstandingOf g.kind, tag := tag }
  held : ∀ i e tag, (T.seat i).entry = some e → e.junction = j → tagOf e.status = some tag →
    ∃ g, (T.desk j).grant = some g ∧ g.slot = i
  dark : (T.desk j).live = false → (T.desk j).grant = none ∧ (T.desk j).outstanding = none
    ∧ ∀ i e, (T.seat i).entry = some e → e.junction = j → ¬Seeks e.status
  coord : (T.desk j).live = true → (T.desk j).localMode = some .coord

/-- Every junction's desk is sound. -/
def TableSound (T : Table) : Prop := ∀ j, DeskSound T j

/-- The rank order of two entries (R85). -/
def EntryAbove (T : Table) (i k : SlotId) : Prop :=
  ∃ r, (T.seat i).entry = some r ∧ ∃ q, (T.seat k).entry = some q ∧
    (q.score < r.score
      ∨ (q.score = r.score ∧ (timeDiff r.checkInTime q.checkInTime < 0 ∨ (r.checkInTime = q.checkInTime ∧ i < k))))

/-- Every order is sorted (R85). -/
def TableSorted (T : Table) : Prop := ∀ j, (T.desk j).candidates.Pairwise (EntryAbove T)

/-- No check-in time is later than now (R2). -/
def TableRecent (now : Time) (T : Table) : Prop := ∀ i e, (T.seat i).entry = some e → 0 ≤ timeDiff now e.checkInTime

/-- Every stored decision is in its range (R40). -/
def TableDecided (T : Table) : Prop := ∀ i e, (T.seat i).entry = some e → ∀ d ∈ e.decision, DecisionBounded d

/-- Every grant is in its range (R104). -/
def TableGranted (T : Table) : Prop :=
  ∀ j g, (T.desk j).grant = some g → g.step < (T.desk j).steps ∧ 10 ≤ g.amount ∧ g.amount ≤ 400

theorem entry_eq_some_iff {s : State} {i : SlotId} {e : Entry} :
    ((tableOf s).seat i).entry = some e ↔ ∃ r, recordAt s i = some r ∧ entryOfRecord r = e := Option.map_eq_some_iff

theorem entry_of_record {s : State} {i : SlotId} {r : Record} (h : recordAt s i = some r) :
    ((tableOf s).seat i).entry = some (entryOfRecord r) := entry_eq_some_iff.mpr ⟨r, h, rfl⟩

theorem deskSound_tableOf_iff (s : State) (j : JunctionId) : DeskSound (tableOf s) j ↔
    ((junctionAt s j).candidates.Nodup
      ∧ ∀ i : SlotId, i ∈ (junctionAt s j).candidates ↔ ∃ r ∈ recordAt s i, r.junction = j ∧ r.status = .candidate)
    ∧ (∀ i : SlotId, ∀ r ∈ recordAt s i, r.junction = j → r.status = .candidate →
        ((r.decision.map Decision.kind).bind grantOf).isSome = true)
    ∧ (∀ g ∈ (junctionAt s j).grant, ∃ r ∈ recordAt s g.slot, r.junction = j ∧ (slotAt s g.slot).generation = g.generation
        ∧ ∃ tag ∈ tagOf r.status, (junctionAt s j).outstanding =
            if g.accepted then none else some { kind := outstandingOf g.kind, tag := tag })
    ∧ (∀ i : SlotId, ∀ r ∈ recordAt s i, r.junction = j → ∀ tag ∈ tagOf r.status,
        ∃ g ∈ (junctionAt s j).grant, g.slot = i)
    ∧ (isLive (junctionAt s j) = false → (junctionAt s j).grant = none ∧ (junctionAt s j).outstanding = none
        ∧ ∀ i : SlotId, ∀ r ∈ recordAt s i, r.junction = j → seeksGrant r = false)
    ∧ (isLive (junctionAt s j) = true → (junctionAt s j).localMode = some .coord) := by
  constructor
  · rintro ⟨hnodup, hexact, hdecided, hholder, hheld, hdark, hcoord⟩
    refine ⟨⟨hnodup, fun i => (hexact i).trans ?_⟩, fun i r hr => hdecided i _ (entry_of_record hr), fun g hg => ?_,
      fun i r hr hj tag htag => hheld i _ tag (entry_of_record hr) hj htag, fun hl => ?_, hcoord⟩
    · constructor
      · rintro ⟨e, he, hj, hst⟩
        obtain ⟨r, hr, rfl⟩ := entry_eq_some_iff.mp he
        exact ⟨r, hr, hj, hst⟩
      · rintro ⟨r, hr, hj, hst⟩
        exact ⟨_, entry_of_record hr, hj, hst⟩
    · obtain ⟨e, he, hj, hgen, hout⟩ := hholder g hg
      obtain ⟨r, hr, rfl⟩ := entry_eq_some_iff.mp he
      exact ⟨r, hr, hj, hgen, hout⟩
    · obtain ⟨hgrant, hout, hseeks⟩ := hdark hl
      exact ⟨hgrant, hout, fun i r hr hj => (seeksGrant_eq_false_iff r).mpr (hseeks i _ (entry_of_record hr) hj)⟩
  · rintro ⟨⟨hnodup, hexact⟩, hdecided, hholder, hheld, hdark, hcoord⟩
    refine ⟨hnodup, fun i => (hexact i).trans ?_, fun i e he => ?_, fun g hg => ?_, fun i e tag he => ?_, fun hl => ?_,
      hcoord⟩
    · constructor
      · rintro ⟨r, hr, hj, hst⟩
        exact ⟨_, entry_of_record hr, hj, hst⟩
      · rintro ⟨e, he, hj, hst⟩
        obtain ⟨r, hr, rfl⟩ := entry_eq_some_iff.mp he
        exact ⟨r, hr, hj, hst⟩
    · obtain ⟨r, hr, rfl⟩ := entry_eq_some_iff.mp he
      exact hdecided i r hr
    · obtain ⟨r, hr, hj, hgen, hout⟩ := hholder g hg
      exact ⟨_, entry_of_record hr, hj, hgen, hout⟩
    · obtain ⟨r, hr, rfl⟩ := entry_eq_some_iff.mp he
      exact fun hj htag => hheld i r hr hj tag htag
    · obtain ⟨hgrant, hout, hseeks⟩ := hdark hl
      refine ⟨hgrant, hout, fun i e he hj => ?_⟩
      obtain ⟨r, hr, rfl⟩ := entry_eq_some_iff.mp he
      exact (seeksGrant_eq_false_iff r).mp (hseeks i r hr hj)

theorem tableConsistent_iff (s : State) : TableConsistent s ↔ KeysDiffer s ∧ TableSound (tableOf s) := by
  simp only [TableConsistent, TableSound, deskSound_tableOf_iff, OrdersExact, GrantsHeld, DarkHoldsNothing]
  constructor
  · rintro ⟨hkeys, ⟨horders, hdecided⟩, ⟨hholder, hheld⟩, hdark, hcoord⟩
    exact ⟨hkeys, fun j => ⟨horders j, fun i r hr _ => hdecided i r hr, hholder j,
      fun i r hr hj tag htag => hj ▸ hheld i r hr tag htag, hdark j, hcoord j⟩⟩
  · rintro ⟨hkeys, h⟩
    exact ⟨hkeys, ⟨fun j => (h j).1, fun i r hr => (h r.junction).2.1 i r hr rfl⟩,
      ⟨fun j => (h j).2.2.1, fun i r hr => (h r.junction).2.2.2.1 i r hr rfl⟩, fun j => (h j).2.2.2.2.1,
      fun j => (h j).2.2.2.2.2⟩

theorem ordersSorted_iff (s : State) : OrdersSorted s ↔ TableSorted (tableOf s) := by
  refine forall_congr' fun j => List.Pairwise.iff fun i k => ?_
  constructor
  · rintro ⟨r, hr, q, hq, h⟩
    exact ⟨_, entry_of_record hr, _, entry_of_record hq, h⟩
  · rintro ⟨e, he, e', he', h⟩
    obtain ⟨r, hr, rfl⟩ := entry_eq_some_iff.mp he
    obtain ⟨q, hq, rfl⟩ := entry_eq_some_iff.mp he'
    exact ⟨r, hr, q, hq, h⟩

theorem checkInsRecent_iff (s : State) : CheckInsRecent s ↔ TableRecent s.time (tableOf s) := by
  constructor
  · intro h i e he
    obtain ⟨r, hr, rfl⟩ := entry_eq_some_iff.mp he
    exact h i r hr
  · intro h i r hr
    exact h i (entryOfRecord r) (entry_of_record hr)

theorem grantsBounded_iff (s : State) : GrantsBounded s ↔ TableGranted (tableOf s) :=
  ⟨fun h j g hg => h j g hg, fun h j g hg => h j g hg⟩

theorem tableDecided_of_resultsBounded {s : State} (h : ResultsBounded s) : TableDecided (tableOf s) := by
  intro i e he
  obtain ⟨r, hr, rfl⟩ := entry_eq_some_iff.mp he
  exact (h.1 i r hr).2.2

/-! ### The moves that keep a table -/

/-- A move keeps the table sound; with the check-in times recent its orders sorted; and, where the results handed over are
in their ranges, its decisions and its grants in theirs. -/
def Keeps (now : Time) (B : Prop) (T T' : Table) : Prop :=
  TableSound T →
    TableSound T' ∧ (TableRecent now T → TableRecent now T' ∧ (TableSorted T → TableSorted T'))
      ∧ (B → TableDecided T → TableDecided T' ∧ (TableGranted T → TableGranted T'))

theorem Keeps.refl (now : Time) (B : Prop) (T : Table) : Keeps now B T T :=
  fun h => ⟨h, fun hr => ⟨hr, id⟩, fun _ hd => ⟨hd, id⟩⟩

theorem Keeps.trans {now : Time} {B : Prop} {T T' T'' : Table} (h : Keeps now B T T') (h' : Keeps now B T' T'') :
    Keeps now B T T'' := by
  intro hT
  obtain ⟨hT', hsorted, hgranted⟩ := h hT
  obtain ⟨hT'', hsorted', hgranted'⟩ := h' hT'
  refine ⟨hT'', fun hr => ?_, fun hb hd => ?_⟩
  · obtain ⟨hr', hs'⟩ := hsorted hr
    obtain ⟨hr'', hs''⟩ := hsorted' hr'
    exact ⟨hr'', hs'' ∘ hs'⟩
  · obtain ⟨hd', hg'⟩ := hgranted hb hd
    obtain ⟨hd'', hg''⟩ := hgranted' hb hd'
    exact ⟨hd'', hg'' ∘ hg'⟩

/-- A move is judged from a sound table alone. -/
theorem Keeps.of_sound {now : Time} {B : Prop} {T T' : Table} (h : TableSound T → Keeps now B T T') : Keeps now B T T' :=
  fun hT => h hT hT

/-! ### What other junctions see -/

/-- A desk stays sound where it and the seats of its records stay. -/
theorem DeskSound.congr {T T' : Table} {j : JunctionId} (hdesk : T'.desk j = T.desk j)
    (hseat : ∀ i, T'.seat i = T.seat i
      ∨ ((∀ e, (T.seat i).entry = some e → e.junction ≠ j) ∧ ∀ e, (T'.seat i).entry = some e → e.junction ≠ j))
    (h : DeskSound T j) : DeskSound T' j := by
  have hsame : ∀ i e, (T'.seat i).entry = some e → e.junction = j → T'.seat i = T.seat i := fun i e he hj =>
    (hseat i).resolve_right fun hne => hne.2 e he hj
  have hsame' : ∀ i e, (T.seat i).entry = some e → e.junction = j → T'.seat i = T.seat i := fun i e he hj =>
    (hseat i).resolve_right fun hne => hne.1 e he hj
  obtain ⟨hnodup, hexact, hdecided, hholder, hheld, hdark, hcoord⟩ := h
  refine ⟨hdesk ▸ hnodup, fun i => ?_, fun i e he hj => ?_, fun g hg => ?_, fun i e tag he hj => ?_, fun hl => ?_,
    fun hl => ?_⟩
  · rw [hdesk, hexact]
    constructor
    · rintro ⟨e, he, hj, hst⟩
      exact ⟨e, hsame' i e he hj ▸ he, hj, hst⟩
    · rintro ⟨e, he, hj, hst⟩
      exact ⟨e, hsame i e he hj ▸ he, hj, hst⟩
  · exact hdecided i e (hsame i e he hj ▸ he) hj
  · obtain ⟨e, he, hj, hout⟩ := hholder g (hdesk ▸ hg)
    rw [hsame' g.slot e he hj, hdesk]
    exact ⟨e, he, hj, hout⟩
  · rw [hdesk]
    exact hheld i e tag (hsame i e he hj ▸ he) hj
  · rw [hdesk] at hl ⊢
    obtain ⟨hgrant, hout, hseeks⟩ := hdark hl
    exact ⟨hgrant, hout, fun i e he hj => hseeks i e (hsame i e he hj ▸ he) hj⟩
  · rw [hdesk] at hl ⊢
    exact hcoord hl

/-- A change of one desk keeps a sound table where that desk stays sound. -/
theorem tableSound_onDesk {T : Table} {j : JunctionId} {f : Desk → Desk} (h : TableSound T)
    (hj : DeskSound (T.onDesk j f) j) : TableSound (T.onDesk j f) := by
  intro k
  by_cases hk : k = j
  · exact hk ▸ hj
  · exact (h k).congr (desk_onDesk_ne hk f T) fun _ => .inl rfl

/-- A change of one desk and one of its seats keeps a sound table where that desk stays sound. -/
theorem tableSound_put {T : Table} {j : JunctionId} {i : SlotId} {f : Desk → Desk} {x : Seat → Seat} (h : TableSound T)
    (hold : ∀ e, (T.seat i).entry = some e → e.junction = j)
    (hnew : ∀ e, (x (T.seat i)).entry = some e → e.junction = j)
    (hj : DeskSound ((T.onDesk j f).onSeat i x) j) : TableSound ((T.onDesk j f).onSeat i x) := by
  intro k
  by_cases hk : k = j
  · exact hk ▸ hj
  · refine (h k).congr (desk_onDesk_ne hk f T) fun m => ?_
    by_cases hm : m = i
    · subst hm
      refine .inr ⟨fun e he hjk => hk (hjk.symm.trans (hold e he)), fun e he hjk => hk ?_⟩
      rw [seat_onSeat_same] at he
      exact hjk.symm.trans (hnew e he)
    · exact .inl (seat_onSeat_ne hm ..)

/-- A slot in an order of a sound table holds a record of its junction. -/
theorem entry_of_mem_candidates {T : Table} (h : TableSound T) {j : JunctionId} {i : SlotId}
    (hi : i ∈ (T.desk j).candidates) : ∃ e, (T.seat i).entry = some e ∧ e.junction = j ∧ e.status = .candidate :=
  ((h j).exact i).mp hi

/-! ### The rank order (R85) -/

/-- Where neither time is later than now, one is earlier than the other when it is the longer ago (R2). -/
theorem timeDiff_eq_sub {now a b : Time} (ha : 0 ≤ timeDiff now a) (hb : 0 ≤ timeDiff now b) :
    timeDiff a b = timeDiff now b - timeDiff now a := by
  obtain ⟨ha1, ha2, ka, hka⟩ := timeDiff_spec now a
  obtain ⟨hb1, hb2, kb, hkb⟩ := timeDiff_spec now b
  obtain ⟨hc1, hc2, kc, hkc⟩ := timeDiff_spec a b
  omega

theorem timeDiff_eq_iff {now a b : Time} : timeDiff now a = timeDiff now b ↔ a = b := by
  refine ⟨fun h => ?_, fun h => h ▸ rfl⟩
  obtain ⟨-, -, ka, hka⟩ := timeDiff_spec now a
  obtain ⟨-, -, kb, hkb⟩ := timeDiff_spec now b
  have := a.isLt
  have := b.isLt
  exact BitVec.eq_of_toNat_eq (by omega)

/-- The rank of two entries by score, age and slot. -/
theorem entryAbove_iff {now : Time} {T : Table} (hrecent : TableRecent now T) {i k : SlotId} {r q : Entry}
    (hr : (T.seat i).entry = some r) (hq : (T.seat k).entry = some q) :
    EntryAbove T i k ↔ q.score < r.score ∨ (q.score = r.score ∧
      (timeDiff now q.checkInTime < timeDiff now r.checkInTime
        ∨ (timeDiff now r.checkInTime = timeDiff now q.checkInTime ∧ i.val < k.val))) := by
  have hsub := timeDiff_eq_sub (hrecent i r hr) (hrecent k q hq)
  have hiff : EntryAbove T i k ↔ q.score < r.score
      ∨ (q.score = r.score ∧ (timeDiff r.checkInTime q.checkInTime < 0 ∨ (r.checkInTime = q.checkInTime ∧ i < k))) := by
    constructor
    · rintro ⟨r', hr', q', hq', h⟩
      obtain rfl := Option.some.inj (hr.symm.trans hr')
      obtain rfl := Option.some.inj (hq.symm.trans hq')
      exact h
    · exact fun h => ⟨r, hr, q, hq, h⟩
  rw [hiff, hsub, timeDiff_eq_iff (now := now), sub_neg, Fin.lt_def]

theorem EntryAbove.trans {now : Time} {T : Table} (hrecent : TableRecent now T) {i k m : SlotId}
    (h : EntryAbove T i k) (h' : EntryAbove T k m) : EntryAbove T i m := by
  obtain ⟨r, hr, q, hq, -⟩ := id h
  obtain ⟨-, -, p, hp, -⟩ := id h'
  rw [entryAbove_iff hrecent hr hq] at h
  rw [entryAbove_iff hrecent hq hp] at h'
  rw [entryAbove_iff hrecent hr hp]
  omega

/-- Of two different slots with records one ranks above the other. -/
theorem entryAbove_total {now : Time} {T : Table} (hrecent : TableRecent now T) {i k : SlotId} {r q : Entry}
    (hr : (T.seat i).entry = some r) (hq : (T.seat k).entry = some q) (hne : i ≠ k) (h : ¬EntryAbove T i k) :
    EntryAbove T k i := by
  have hne' : i.val ≠ k.val := fun e => hne (Fin.ext e)
  rw [entryAbove_iff hrecent hr hq] at h
  rw [entryAbove_iff hrecent hq hr]
  omega

theorem entryAbove_of_ranksBefore {s : State} {i k : SlotId} {r q : Record} (hr : recordAt s i = some r)
    (hq : recordAt s k = some q) : ranksBefore s i k = true ↔ EntryAbove (tableOf s) i k := by
  have hiff : EntryAbove (tableOf s) i k ↔ q.score < r.score
      ∨ (q.score = r.score ∧ (timeDiff r.checkInTime q.checkInTime < 0 ∨ (r.checkInTime = q.checkInTime ∧ i < k))) := by
    constructor
    · rintro ⟨r', hr', q', hq', h⟩
      obtain rfl := Option.some.inj ((entry_of_record hr).symm.trans hr')
      obtain rfl := Option.some.inj ((entry_of_record hq).symm.trans hq')
      exact h
    · exact fun h => ⟨_, entry_of_record hr, _, entry_of_record hq, h⟩
  rw [hiff, ranksBefore, hr, hq]
  dsimp only
  split
  · next hscore => simp only [decide_eq_true_eq]; omega
  · next hscore =>
    have hscore : r.score = q.score := not_not.mp hscore
    split
    · next htime => simp [hscore, htime]
    · next htime =>
      have htime : r.checkInTime = q.checkInTime := not_not.mp htime
      simp [hscore, htime, timeDiff]

theorem insertSorted_perm (s : State) (i : SlotId) (l : List SlotId) : (insertSorted s i l).Perm (i :: l) := by
  induction l with
  | nil => exact .refl _
  | cons y l ih =>
    unfold insertSorted
    split
    · exact .refl _
    · exact (ih.cons y).trans (.swap i y l)

/-- An insertion at the sorted place keeps an order sorted (R86). -/
theorem insertSorted_pairwise {now : Time} {s : State} (hrecent : TableRecent now (tableOf s)) {i : SlotId} {l : List SlotId}
    (hi : (recordAt s i).isSome = true) (hl : ∀ k ∈ l, (recordAt s k).isSome = true) (hnew : i ∉ l)
    (hsorted : l.Pairwise (EntryAbove (tableOf s))) : (insertSorted s i l).Pairwise (EntryAbove (tableOf s)) := by
  obtain ⟨r, hr⟩ := Option.isSome_iff_exists.mp hi
  induction l with
  | nil => simp [insertSorted]
  | cons y l ih =>
    obtain ⟨q, hq⟩ := Option.isSome_iff_exists.mp (hl y List.mem_cons_self)
    obtain ⟨hy, hsorted'⟩ := List.pairwise_cons.mp hsorted
    have hiff := entryAbove_of_ranksBefore hr hq
    unfold insertSorted
    split
    · next h =>
      have habove := hiff.mp h
      exact List.pairwise_cons.mpr ⟨fun k hk => (List.mem_cons.mp hk).elim (fun e => e ▸ habove)
        fun hk => habove.trans hrecent (hy k hk), hsorted⟩
    · next h =>
      have hne : i ≠ y := fun e => hnew (e ▸ List.mem_cons_self)
      have habove := entryAbove_total hrecent (entry_of_record hr) (entry_of_record hq) hne (mt hiff.mpr h)
      refine List.pairwise_cons.mpr ⟨fun k hk => ?_, ih (fun k hk => hl k (List.mem_cons_of_mem _ hk))
        (fun h => hnew (List.mem_cons_of_mem _ h)) hsorted'⟩
      obtain rfl | hk := List.mem_cons.mp ((insertSorted_perm s i l).mem_iff.mp hk)
      · exact habove
      · exact hy k hk

end Sys2Proof.Proofs

/-! The moves of a table: one record placed anew, a grant offered, accepted or given up, a junction gone DARK, a record
created, the table cleared. -/

namespace Sys2Proof.Proofs

open Sys2Proof.Machine Sys2Proof.Safety Sys2Proof.Laws

/-! ### Orders that stay sorted -/

/-- An order stays sorted where the slots it holds keep their scores and check-in times. -/
theorem pairwise_entryAbove_congr {T T' : Table} {l : List SlotId}
    (hrank : ∀ k ∈ l, ∀ e, (T.seat k).entry = some e → ∃ e', (T'.seat k).entry = some e' ∧ e'.score = e.score
      ∧ e'.checkInTime = e.checkInTime)
    (h : l.Pairwise (EntryAbove T)) : l.Pairwise (EntryAbove T') := by
  refine h.imp_of_mem fun {i k} hi hk habove => ?_
  obtain ⟨r, hr, q, hq, hrank'⟩ := habove
  obtain ⟨r', hr', hscore, htime⟩ := hrank i hi r hr
  obtain ⟨q', hq', hscore', htime'⟩ := hrank k hk q hq
  exact ⟨r', hr', q', hq', by rw [hscore, htime, hscore', htime']; exact hrank'⟩

theorem entryAbove_of_seat {T T' : Table} (h : T'.seat = T.seat) : EntryAbove T' = EntryAbove T := by
  funext i k; simp only [EntryAbove, h]

/-- The orders of the other junctions stay sorted through a change of one seat of a sound table. -/
theorem pairwise_of_other {T T' : Table} (hT : TableSound T) {j : JunctionId} {i : SlotId}
    (hi : ∀ e, (T.seat i).entry = some e → e.junction = j) (hseat : ∀ k, k ≠ i → T'.seat k = T.seat k) {k : JunctionId}
    (hk : k ≠ j) (h : (T.desk k).candidates.Pairwise (EntryAbove T)) :
    (T.desk k).candidates.Pairwise (EntryAbove T') := by
  refine pairwise_entryAbove_congr (fun m hm e he => ?_) h
  have hne : m ≠ i := by
    rintro rfl
    obtain ⟨e', he', hj, -⟩ := entry_of_mem_candidates hT hm
    exact hk (hj.symm.trans (hi e' he'))
  exact ⟨e, by rw [hseat m hne]; exact he, rfl, rfl⟩

/-! ### One record placed anew -/

/-- How the order of a junction follows a change of one of its records (R84 to R88): it stays where the record neither
enters nor leaves it and keeps its rank, loses the record, or has it at its sorted place. -/
inductive Placed (T : Table) (i : SlotId) (e : Entry) (x : Seat) (c l : List SlotId) : Prop
  | kept (h : l = c) (hnone : e.status = .candidate → ∃ e', x.entry = some e' ∧ e'.status = .candidate ∧ e'.score = e.score)
      (hsome : ∀ e', x.entry = some e' → e'.status = .candidate → e.status = .candidate)
  | removed (h : l = c.erase i) (hnot : ∀ e', x.entry = some e' → e'.status ≠ .candidate)
  | inserted (e' : Entry) (hx : x.entry = some e') (hst : e'.status = .candidate) (s : State)
      (hs : (tableOf s).seat = (T.onSeat i fun _ => x).seat) (h : l = insertSorted s i (c.erase i))

theorem mem_placed {T : Table} {i : SlotId} {e : Entry} {x : Seat} {c l : List SlotId} (h : Placed T i e x c l)
    (hnodup : c.Nodup) (hi : i ∈ c ↔ e.status = .candidate) :
    l.Nodup ∧ ∀ k, k ∈ l ↔ (k ≠ i ∧ k ∈ c) ∨ (k = i ∧ ∃ e', x.entry = some e' ∧ e'.status = .candidate) := by
  cases h with
  | kept h hnone hsome =>
    subst h
    refine ⟨hnodup, fun k => ?_⟩
    by_cases hk : k = i
    · subst hk
      simp only [ne_eq, not_true_eq_false, false_and, true_and, false_or, hi]
      exact ⟨fun hst => (hnone hst).imp fun _ h => ⟨h.1, h.2.1⟩, fun ⟨e', he', hst⟩ => hsome e' he' hst⟩
    · simp [hk]
  | removed h hnot =>
    subst h
    refine ⟨hnodup.erase i, fun k => ?_⟩
    rw [hnodup.mem_erase_iff]
    refine ⟨.inl, fun h => h.resolve_right ?_⟩
    rintro ⟨-, e', he', hst⟩
    exact hnot e' he' hst
  | inserted e' hx hst s hs h =>
    subst h
    have hperm := insertSorted_perm s i (c.erase i)
    refine ⟨hperm.nodup_iff.mpr (List.nodup_cons.mpr ⟨hnodup.not_mem_erase, hnodup.erase i⟩), fun k => ?_⟩
    rw [hperm.mem_iff, List.mem_cons, hnodup.mem_erase_iff]
    have hentry : ∃ e', x.entry = some e' ∧ e'.status = .candidate := ⟨e', hx, hst⟩
    simp only [hentry, and_true]
    exact or_comm

/-- The placed order is sorted by the new records. -/
theorem sorted_placed {now : Time} {T T' : Table} {i : SlotId} {e : Entry} {x : Seat} {c l : List SlotId}
    (h : Placed T i e x c l) (hseat : T'.seat = (T.onSeat i fun _ => x).seat) (hnodup : c.Nodup)
    (hi : i ∈ c ↔ e.status = .candidate) (he : (T.seat i).entry = some e)
    (hentries : ∀ k ∈ c, ∃ e, (T.seat k).entry = some e) (htime : ∀ e', x.entry = some e' → e'.checkInTime = e.checkInTime)
    (hrecent : TableRecent now T') (hsorted : c.Pairwise (EntryAbove T)) : l.Pairwise (EntryAbove T') := by
  have hother : ∀ k, k ≠ i → T'.seat k = T.seat k := fun k hk => by rw [hseat]; exact seat_onSeat_ne hk ..
  have herase : (c.erase i).Pairwise (EntryAbove T') := by
    refine pairwise_entryAbove_congr (fun k hk e he => ?_) (hsorted.sublist List.erase_sublist)
    exact ⟨e, by rw [hother k (hnodup.mem_erase_iff.mp hk).1]; exact he, rfl, rfl⟩
  cases h with
  | kept h hnone hsome =>
    subst h
    refine pairwise_entryAbove_congr (fun k hk q hq => ?_) hsorted
    by_cases hki : k = i
    · subst hki
      obtain rfl := Option.some.inj (he.symm.trans hq)
      obtain ⟨e', he', -, hscore⟩ := hnone (hi.mp hk)
      exact ⟨e', by rw [hseat, seat_onSeat_same]; exact he', hscore, htime e' he'⟩
    · exact ⟨q, by rw [hother k hki]; exact hq, rfl, rfl⟩
  | removed h _ => exact h ▸ herase
  | inserted e' hx hst s hs h =>
    subst h
    have hs' : T'.seat = (tableOf s).seat := hseat.trans hs.symm
    have hentry : ∀ k, (∃ q, (T'.seat k).entry = some q) → (recordAt s k).isSome = true := by
      rintro k ⟨q, hq⟩
      rw [hs'] at hq
      obtain ⟨r, hr, -⟩ := entry_eq_some_iff.mp hq
      exact Option.isSome_iff_exists.mpr ⟨r, hr⟩
    rw [entryAbove_of_seat hs'] at herase ⊢
    refine insertSorted_pairwise (now := now) (fun k q hq => hrecent k q (by rw [hs']; exact hq))
      (hentry i ⟨e', by rw [hseat, seat_onSeat_same]; exact hx⟩) (fun k hk => hentry k ?_) hnodup.not_mem_erase herase
    obtain ⟨hne, hmem⟩ := hnodup.mem_erase_iff.mp hk
    rw [hother k hne]
    exact hentries k hmem

/-- A table with a seat changed, and the order, the grant and the outstanding directive of its junction with it. -/
def Table.place (T : Table) (j : JunctionId) (i : SlotId) (x : Seat) (l : List SlotId) (g : Option Grant)
    (o : Option Outstanding) : Table :=
  (T.onDesk j fun d => { d with candidates := l, grant := g, outstanding := o }).onSeat i fun _ => x

section

variable {T : Table} {j : JunctionId} {i : SlotId} {x : Seat} {l : List SlotId} {g : Option Grant} {o : Option Outstanding}

@[simp] theorem desk_place_same :
    (T.place j i x l g o).desk j = { T.desk j with candidates := l, grant := g, outstanding := o } := by
  rw [Table.place, desk_onSeat, desk_onDesk_same]

theorem desk_place_ne {k : JunctionId} (h : k ≠ j) : (T.place j i x l g o).desk k = T.desk k := by
  rw [Table.place, desk_onSeat, desk_onDesk_ne h]

@[simp] theorem seat_place_same : (T.place j i x l g o).seat i = x := seat_onSeat_same ..

theorem seat_place_ne {k : SlotId} (h : k ≠ i) : (T.place j i x l g o).seat k = T.seat k := seat_onSeat_ne h ..

/-- The seats of a placed table, by whether they are the changed one. -/
theorem entry_place {k : SlotId} {q : Entry} (h : ((T.place j i x l g o).seat k).entry = some q) :
    (k = i ∧ x.entry = some q) ∨ (k ≠ i ∧ (T.seat k).entry = some q) := by
  by_cases hk : k = i
  · subst hk; exact .inl ⟨rfl, by rwa [seat_place_same] at h⟩
  · exact .inr ⟨hk, by rwa [seat_place_ne hk] at h⟩

variable {e : Entry} (hT : TableSound T) (he : (T.seat i).entry = some e) (hj : e.junction = j)

include he hj in
theorem junction_of_entry (e' : Entry) (he' : (T.seat i).entry = some e') : e'.junction = j := by
  obtain rfl := Option.some.inj (he.symm.trans he')
  exact hj

include hT he hj in
theorem mem_candidates_iff : i ∈ (T.desk j).candidates ↔ e.status = .candidate := by
  rw [(hT j).exact]
  refine ⟨fun ⟨e', he', _, hst⟩ => ?_, fun hst => ⟨e, he, hj, hst⟩⟩
  obtain rfl := Option.some.inj (he.symm.trans he')
  exact hst

/-- What a record that does not end up GRANTED may become. -/
def Settles (T : Table) (j : JunctionId) (e : Entry) (x : Seat) : Prop :=
  ∀ e', x.entry = some e' → e'.junction = j ∧ e'.checkInTime = e.checkInTime ∧ tagOf e'.status = none
    ∧ (e'.status = .candidate → Decides e') ∧ ((T.desk j).live = false → ¬Seeks e'.status)

/-- What becomes of the grant as a record of the junction settles: it stays where another record holds it, and ends with
its holder. -/
def GrantFollows (T : Table) (j : JunctionId) (i : SlotId) (e : Entry) (g : Option Grant) (o : Option Outstanding) : Prop :=
  (tagOf e.status = none ∧ g = (T.desk j).grant ∧ o = (T.desk j).outstanding)
    ∨ (g = none ∧ (o = none ∨ o = (T.desk j).outstanding) ∧ ∀ g', (T.desk j).grant = some g' → g'.slot = i)

/-- A grant that stays is held by another record. -/
theorem grant_of_follows (h : GrantFollows T j i e g o) {g' : Grant} (hg' : g = some g') :
    (T.desk j).grant = some g' ∧ o = (T.desk j).outstanding ∧ tagOf e.status = none := by
  obtain ⟨htag, hg, ho⟩ | ⟨hg, -⟩ := h
  · exact ⟨hg.symm.trans hg', ho, htag⟩
  · exact absurd (hg.symm.trans hg') nofun

variable (hx : Settles T j e x) (hplaced : Placed T i e x (T.desk j).candidates l) (hgrant : GrantFollows T j i e g o)

include hT he hj hx hplaced hgrant in
theorem deskSound_place : DeskSound (T.place j i x l g o) j := by
  obtain ⟨hnodup, hexact, hdecides, hholder, hheld, hdark, hcoord⟩ := hT j
  obtain ⟨hnodup', hmem⟩ := mem_placed hplaced hnodup (mem_candidates_iff hT he hj)
  refine ⟨by simpa using hnodup', fun k => ?_, fun k q hq hqj hst => ?_, fun g' hg' => ?_, fun k q tag hq hqj htag => ?_,
    fun hlive => ?_, by simpa using hcoord⟩
  · rw [desk_place_same, hmem]
    by_cases hk : k = i
    · subst hk
      simp only [ne_eq, not_true_eq_false, false_and, true_and, false_or, seat_place_same]
      exact ⟨fun ⟨e', he', hst⟩ => ⟨e', he', (hx e' he').1, hst⟩, fun ⟨e', he', _, hst⟩ => ⟨e', he', hst⟩⟩
    · simp only [ne_eq, hk, not_false_eq_true, true_and, false_and, or_false, seat_place_ne hk]
      exact hexact k
  · obtain ⟨rfl, hq'⟩ | ⟨-, hq'⟩ := entry_place hq
    · exact (hx q hq').2.2.2.1 hst
    · exact hdecides k q hq' hqj hst
  · rw [desk_place_same] at hg' ⊢
    obtain ⟨hg, ho, htag⟩ := grant_of_follows hgrant hg'
    obtain ⟨q, hq, hqj, hgen, tag, htag', hout⟩ := hholder g' hg
    have hne : g'.slot ≠ i := by
      intro h
      rw [h] at hq
      obtain rfl := Option.some.inj (he.symm.trans hq)
      exact absurd (htag.symm.trans htag') nofun
    rw [seat_place_ne hne]
    exact ⟨q, hq, hqj, hgen, tag, htag', ho.trans hout⟩
  · rw [desk_place_same]
    obtain ⟨rfl, hq'⟩ | ⟨hk, hq'⟩ := entry_place hq
    · exact absurd ((hx q hq').2.2.1.symm.trans htag) nofun
    · obtain ⟨g', hg', hslot⟩ := hheld k q tag hq' hqj htag
      obtain ⟨-, hg, -⟩ | ⟨-, -, honly⟩ := hgrant
      · exact ⟨g', hg.trans hg', hslot⟩
      · exact absurd (hslot.symm.trans (honly g' hg')) hk
  · rw [desk_place_same] at hlive ⊢
    obtain ⟨hnone, hout, hseeks⟩ := hdark hlive
    refine ⟨?_, ?_, fun k q hq hqj => ?_⟩
    · obtain ⟨-, hg, -⟩ | ⟨hg, -⟩ := hgrant
      · exact hg.trans hnone
      · exact hg
    · obtain ⟨-, -, ho⟩ | ⟨-, ho | ho, -⟩ := hgrant
      · exact ho.trans hout
      · exact ho
      · exact ho.trans hout
    · obtain ⟨rfl, hq'⟩ | ⟨-, hq'⟩ := entry_place hq
      · exact (hx q hq').2.2.2.2 hlive
      · exact hseeks k q hq' hqj

include he hx in
theorem tableRecent_place {now : Time} (h : TableRecent now T) : TableRecent now (T.place j i x l g o) := by
  intro k q hq
  obtain ⟨rfl, hq'⟩ | ⟨-, hq'⟩ := entry_place hq
  · rw [(hx q hq').2.1]
    exact h k e he
  · exact h k q hq'

include hT he hj hx hplaced in
theorem tableSorted_place {now : Time} (hrecent : TableRecent now T) (h : TableSorted T) :
    TableSorted (T.place j i x l g o) := by
  intro k
  by_cases hk : k = j
  · subst hk
    rw [desk_place_same]
    exact sorted_placed hplaced rfl (hT k).nodup (mem_candidates_iff hT he hj) he
      (fun m hm => (entry_of_mem_candidates hT hm).imp fun _ h => h.1) (fun e' he' => (hx e' he').2.1)
      (tableRecent_place he hx hrecent) (h k)
  · rw [desk_place_ne hk]
    exact pairwise_of_other hT (junction_of_entry he hj) (fun m hm => seat_place_ne hm) hk (h k)

include hgrant in
theorem tableGranted_place (h : TableGranted T) : TableGranted (T.place j i x l g o) := by
  intro k g' hg'
  by_cases hk : k = j
  · subst hk
    rw [desk_place_same] at hg' ⊢
    exact h k g' (grant_of_follows hgrant hg').1
  · rw [desk_place_ne hk] at hg' ⊢
    exact h k g' hg'

/-- A record that does not end up GRANTED takes a new state or leaves its slot, the order following; a grant it held
ends with it (R56, R80, R84, R112, R116, R121). -/
theorem keeps_place {now : Time} {B : Prop} (he : (T.seat i).entry = some e) (hj : e.junction = j)
    (hx : Settles T j e x)
    (hdecided : B → TableDecided T → ∀ e', x.entry = some e' → ∀ d ∈ e'.decision, DecisionBounded d)
    (hplaced : Placed T i e x (T.desk j).candidates l) (hgrant : GrantFollows T j i e g o) :
    Keeps now B T (T.place j i x l g o) := by
  refine fun hT => ⟨tableSound_put hT (junction_of_entry he hj) (fun e' he' => (hx e' he').1)
      (deskSound_place hT he hj hx hplaced hgrant),
    fun hrecent => ⟨tableRecent_place he hx hrecent, tableSorted_place hT he hj hx hplaced hrecent⟩,
    fun hb hd => ⟨fun k q hq => ?_, tableGranted_place hgrant⟩⟩
  obtain ⟨rfl, hq'⟩ | ⟨-, hq'⟩ := entry_place hq
  · exact hdecided hb hd q hq'
  · exact hd k q hq'

end

/-! ### A record edited in its state -/

/-- A record changes, its state staying; a candidate keeps its rank and a decision of EXTEND or ADVANCE (R11, R47, R98). -/
theorem keeps_edit {now : Time} {B : Prop} {T : Table} {i : SlotId} {e e' : Entry} (he : (T.seat i).entry = some e)
    (hjunction : e'.junction = e.junction) (hstatus : e'.status = e.status) (htime : e'.checkInTime = e.checkInTime)
    (hcandidate : e.status = .candidate → e'.score = e.score ∧ (Decides e → Decides e'))
    (hdecided : B → TableDecided T → ∀ d ∈ e'.decision, DecisionBounded d) :
    Keeps now B T (T.onSeat i fun y => { y with entry := some e' }) := by
  intro hT
  have hsame : T.onSeat i (fun y => { y with entry := some e' })
      = (T.onDesk e.junction fun d => d).onSeat i fun y => { y with entry := some e' } := by rw [onDesk_id]
  have hentry : ∀ {k q}, ((T.onSeat i fun y => { y with entry := some e' }).seat k).entry = some q →
      (k = i ∧ q = e') ∨ (k ≠ i ∧ (T.seat k).entry = some q) := by
    intro k q hq
    by_cases hk : k = i
    · subst hk
      rw [seat_onSeat_same] at hq
      exact .inl ⟨rfl, (Option.some.inj hq).symm⟩
    · rw [seat_onSeat_ne hk] at hq
      exact .inr ⟨hk, hq⟩
  have hnew : ((T.onSeat i fun y => { y with entry := some e' }).seat i).entry = some e' := by rw [seat_onSeat_same]
  have hdesk : ∀ k, (T.onSeat i fun y => { y with entry := some e' }).desk k = T.desk k := fun _ => rfl
  obtain ⟨hnodup, hexact, hdecides, hholder, hheld, hdark, hcoord⟩ := hT e.junction
  refine ⟨?_, fun hrecent => ⟨fun k q hq => ?_, fun hsorted k => ?_⟩, fun hb hd => ⟨fun k q hq => ?_, fun hbounded => hbounded⟩⟩
  · rw [hsame]
    refine tableSound_put hT (junction_of_entry he rfl) (fun q hq => Option.some.inj hq ▸ hjunction) ?_
    rw [← hsame]
    refine ⟨hnodup, fun k => ?_, fun k q hq hqj hst => ?_, fun g hg => ?_, fun k q tag hq hqj htag => ?_, fun hlive => ?_,
      hcoord⟩
    · rw [hdesk, hexact]
      by_cases hk : k = i
      · subst hk
        rw [hnew, he]
        simp only [Option.some.injEq, exists_eq_left', hjunction, hstatus]
      · rw [seat_onSeat_ne hk]
    · obtain ⟨rfl, rfl⟩ | ⟨-, hq⟩ := hentry hq
      · rw [hstatus] at hst
        exact (hcandidate hst).2 (hdecides k e he rfl hst)
      · exact hdecides k q hq hqj hst
    · obtain ⟨q, hq, hqj, hgen, tag, htag, hout⟩ := hholder g hg
      by_cases hk : g.slot = i
      · rw [hk] at hq hgen ⊢
        obtain rfl := Option.some.inj (he.symm.trans hq)
        rw [seat_onSeat_same]
        exact ⟨e', rfl, hjunction, hgen, tag, hstatus ▸ htag, hout⟩
      · rw [seat_onSeat_ne hk]
        exact ⟨q, hq, hqj, hgen, tag, htag, hout⟩
    · obtain ⟨rfl, rfl⟩ | ⟨-, hq⟩ := hentry hq
      · exact hheld k e tag he rfl (hstatus ▸ htag)
      · exact hheld k q tag hq hqj htag
    · obtain ⟨hnone, hout, hseeks⟩ := hdark hlive
      refine ⟨hnone, hout, fun k q hq hqj => ?_⟩
      obtain ⟨rfl, rfl⟩ | ⟨-, hq⟩ := hentry hq
      · rw [hstatus]
        exact hseeks k e he rfl
      · exact hseeks k q hq hqj
  · obtain ⟨rfl, rfl⟩ | ⟨-, hq⟩ := hentry hq
    · rw [htime]
      exact hrecent k e he
    · exact hrecent k q hq
  · refine pairwise_entryAbove_congr (fun m hm q hq => ?_) (hsorted k)
    by_cases hk : m = i
    · subst hk
      obtain rfl := Option.some.inj (he.symm.trans hq)
      obtain ⟨q, hq', -, hst⟩ := entry_of_mem_candidates hT hm
      obtain rfl := Option.some.inj (he.symm.trans hq')
      exact ⟨e', hnew, (hcandidate hst).1, htime⟩
    · exact ⟨q, by rw [seat_onSeat_ne hk]; exact hq, rfl, rfl⟩
  · obtain ⟨rfl, rfl⟩ | ⟨-, hq⟩ := hentry hq
    · exact hdecided hb hd
    · exact hd k q hq

/-! ### Moves of a desk alone -/

/-- A change of a desk that leaves its order, where the desk stays sound and its grant in range. -/
theorem keeps_onDesk {now : Time} {B : Prop} {T : Table} {j : JunctionId} {f : Desk → Desk}
    (hcandidates : (f (T.desk j)).candidates = (T.desk j).candidates)
    (hsound : DeskSound T j → DeskSound (T.onDesk j f) j)
    (hgranted : DeskSound T j → ∀ g', (f (T.desk j)).grant = some g' →
      ∃ g, (T.desk j).grant = some g ∧ g'.step = g.step ∧ g'.amount = g.amount ∧ (f (T.desk j)).steps = (T.desk j).steps) :
    Keeps now B T (T.onDesk j f) := by
  refine fun hT => ⟨tableSound_onDesk hT (hsound (hT j)), fun hrecent => ⟨hrecent, fun hsorted k => ?_⟩,
    fun _ hd => ⟨hd, fun hbounded k g' hg' => ?_⟩⟩
  · by_cases hk : k = j
    · subst hk
      rw [desk_onDesk_same, hcandidates]
      exact hsorted k
    · rw [desk_onDesk_ne hk]
      exact hsorted k
  · by_cases hk : k = j
    · subst hk
      rw [desk_onDesk_same] at hg' ⊢
      obtain ⟨g, hg, hstep, hamount, hsteps⟩ := hgranted (hT k) g' hg'
      rw [hstep, hamount, hsteps]
      exact hbounded k g hg
    · rw [desk_onDesk_ne hk] at hg' ⊢
      exact hbounded k g' hg'

/-- The clock fields of a junction change: one that was DARK may become LIVE with COORD as its local mode, one that is LIVE
stays so, and the active plan changes only while no grant is held (R9, R11, R12). -/
theorem keeps_clock {now : Time} {B : Prop} {T : Table} {j : JunctionId} {f : Desk → Desk}
    (hcandidates : (f (T.desk j)).candidates = (T.desk j).candidates) (hgrant : (f (T.desk j)).grant = (T.desk j).grant)
    (hout : (f (T.desk j)).outstanding = (T.desk j).outstanding)
    (hlive : (f (T.desk j)).live = false → (T.desk j).live = false)
    (hcoord : (f (T.desk j)).live = true → (f (T.desk j)).localMode = some .coord
      ∨ ((T.desk j).live = true ∧ (f (T.desk j)).localMode = (T.desk j).localMode))
    (hsteps : (f (T.desk j)).steps = (T.desk j).steps ∨ (T.desk j).grant = none ∨ (T.desk j).live = false) :
    Keeps now B T (T.onDesk j f) := by
  refine keeps_onDesk hcandidates (fun h => ?_) fun h g' hg' => ?_
  · obtain ⟨hnodup, hexact, hdecides, hholder, hheld, hdark, hcoord'⟩ := h
    refine ⟨?_, ?_, hdecides, ?_, ?_, ?_, ?_⟩ <;> simp only [desk_onDesk_same, seat_onDesk, hcandidates, hgrant, hout]
    · exact hnodup
    · exact hexact
    · exact hholder
    · exact hheld
    · exact fun h => hdark (hlive h)
    · exact fun h => (hcoord h).elim id fun ⟨h', e⟩ => e.trans (hcoord' h')
  · rw [hgrant] at hg'
    refine ⟨g', hg', rfl, rfl, hsteps.resolve_right ?_⟩
    rintro (h' | h')
    · exact absurd (h'.symm.trans hg') nofun
    · exact absurd ((h.dark h').1.symm.trans hg') nofun

/-- The outstanding directive becomes absent where it is not that of an offer (R114, R131, R132). -/
theorem keeps_gaveUp {now : Time} {B : Prop} {T : Table} {j : JunctionId}
    (h : DeskSound T j → ∀ g, (T.desk j).grant = some g → g.accepted = true) :
    Keeps now B T (T.onDesk j fun d => { d with outstanding := none }) := by
  refine keeps_onDesk rfl (fun hj => ?_) fun _ g hg => ⟨g, hg, rfl, rfl, rfl⟩
  have hacc := h hj
  obtain ⟨hnodup, hexact, hdecides, hholder, hheld, hdark, hcoord⟩ := hj
  refine ⟨?_, ?_, hdecides, fun g hg => ?_, ?_, fun hl => ?_, ?_⟩
  · simpa using hnodup
  · simpa using hexact
  · rw [desk_onDesk_same] at hg ⊢
    obtain ⟨e, he, hej, hgen, tag, htag, -⟩ := hholder g hg
    exact ⟨e, he, hej, hgen, tag, htag, by rw [if_pos (hacc g hg)]⟩
  · simpa using hheld
  · rw [desk_onDesk_same] at hl ⊢
    obtain ⟨hnone, -, hseeks⟩ := hdark hl
    exact ⟨hnone, rfl, hseeks⟩
  · simpa using hcoord

/-- The grant is accepted, its directive answered (R111). -/
theorem keeps_accepted {now : Time} {B : Prop} {T : Table} {j : JunctionId} {g : Grant} (hg : (T.desk j).grant = some g) :
    Keeps now B T (T.onDesk j fun d => { d with grant := some { g with accepted := true }, outstanding := none }) := by
  refine keeps_onDesk rfl (fun hj => ?_) fun _ g' hg' => ⟨g, hg, ?_⟩
  · obtain ⟨hnodup, hexact, hdecides, hholder, hheld, hdark, hcoord⟩ := hj
    refine ⟨?_, ?_, hdecides, fun g' hg' => ?_, fun k q tag hq hqj htag => ?_, fun hl => ?_, ?_⟩
    · simpa using hnodup
    · simpa using hexact
    · rw [desk_onDesk_same] at hg' ⊢
      obtain rfl := Option.some.inj hg'
      obtain ⟨e, he, hej, hgen, tag, htag, -⟩ := hholder g hg
      exact ⟨e, he, hej, hgen, tag, htag, rfl⟩
    · rw [desk_onDesk_same]
      obtain ⟨g', hg', hslot⟩ := hheld k q tag hq hqj htag
      obtain rfl := Option.some.inj (hg.symm.trans hg')
      exact ⟨_, rfl, hslot⟩
    · rw [desk_onDesk_same] at hl
      exact absurd (hg.symm.trans (hdark hl).1) nofun
    · simpa using hcoord
  · obtain rfl := Option.some.inj hg'
    exact ⟨rfl, rfl, rfl⟩

/-- A TRIM becomes outstanding at a LIVE junction without a grant (R130). -/
theorem keeps_trimmed {now : Time} {B : Prop} {T : Table} {j : JunctionId} (o : Outstanding)
    (hlive : (T.desk j).live = true) (hnone : (T.desk j).grant = none) :
    Keeps now B T (T.onDesk j fun d => { d with outstanding := some o }) := by
  refine keeps_onDesk rfl (fun hj => ?_) fun _ g hg => ⟨g, hg, rfl, rfl, rfl⟩
  obtain ⟨hnodup, hexact, hdecides, hholder, hheld, hdark, hcoord⟩ := hj
  refine ⟨?_, ?_, hdecides, fun g hg => ?_, ?_, fun hl => ?_, ?_⟩
  · simpa using hnodup
  · simpa using hexact
  · rw [desk_onDesk_same] at hg
    exact absurd (hnone.symm.trans hg) nofun
  · simpa using hheld
  · rw [desk_onDesk_same] at hl
    exact absurd (hlive.symm.trans hl) nofun
  · simpa using hcoord

end Sys2Proof.Proofs

/-! The moves of a table, continued, and the operations that leave the table as it is. -/

namespace Sys2Proof.Proofs

open Sys2Proof.Machine Sys2Proof.Safety Sys2Proof.Laws

/-! ### The offer (R108) -/

/-- A candidate of a LIVE junction without a grant becomes the holder of an offer. -/
theorem keeps_offered {now : Time} {B : Prop} {T : Table} {j : JunctionId} {i : SlotId} {e : Entry} {g : Grant}
    {tag : Byte} (he : (T.seat i).entry = some e) (hi : i ∈ (T.desk j).candidates) (hlive : (T.desk j).live = true)
    (hnone : (T.desk j).grant = none) (hslot : g.slot = i) (hgen : g.generation = (T.seat i).generation)
    (hoffered : g.accepted = false) (hstep : g.step < (T.desk j).steps)
    (hamount : TableDecided T → 10 ≤ g.amount ∧ g.amount ≤ 400) :
    Keeps now B T (T.place j i ⟨(T.seat i).generation, some { e with status := .granted tag }⟩
      ((T.desk j).candidates.erase i) (some g) (some { kind := outstandingOf g.kind, tag := tag })) := by
  intro hT
  obtain ⟨e', he', hj, hst⟩ := entry_of_mem_candidates hT hi
  obtain rfl := Option.some.inj (he.symm.trans he')
  obtain ⟨hnodup, hexact, hdecides, hholder, hheld, hdark, hcoord⟩ := hT j
  refine ⟨tableSound_put hT (junction_of_entry he hj) (fun q hq => Option.some.inj hq ▸ hj) ?_,
    fun hrecent => ⟨fun k q hq => ?_, fun hsorted k => ?_⟩, fun _ hd => ⟨fun k q hq => ?_, fun hbounded k g' hg' => ?_⟩⟩
  · change DeskSound (T.place j i _ _ _ _) j
    refine ⟨?_, fun k => ?_, fun k q hq hqj hqst => ?_, fun g' hg' => ?_, fun k q tag' hq hqj htag => ?_, fun hl => ?_, ?_⟩
    · rw [desk_place_same]
      exact hnodup.erase i
    · rw [desk_place_same]
      change k ∈ (T.desk j).candidates.erase i ↔ _
      rw [hnodup.mem_erase_iff, hexact]
      by_cases hk : k = i
      · subst hk
        simp
      · rw [seat_place_ne hk]
        simp [hk]
    · obtain ⟨rfl, hq'⟩ | ⟨-, hq'⟩ := entry_place hq
      · obtain rfl := Option.some.inj hq'
        exact absurd hqst nofun
      · exact hdecides k q hq' hqj hqst
    · rw [desk_place_same] at hg' ⊢
      obtain rfl := Option.some.inj hg'
      rw [hslot, seat_place_same]
      exact ⟨_, rfl, hj, hgen.symm, tag, rfl, by rw [hoffered]; rfl⟩
    · rw [desk_place_same]
      obtain ⟨rfl, hq'⟩ | ⟨-, hq'⟩ := entry_place hq
      · exact ⟨g, rfl, hslot⟩
      · obtain ⟨g', hg', -⟩ := hheld k q tag' hq' hqj htag
        exact absurd (hnone.symm.trans hg') nofun
    · rw [desk_place_same] at hl
      exact absurd (hlive.symm.trans hl) nofun
    · rw [desk_place_same]
      exact hcoord
  · obtain ⟨rfl, hq'⟩ | ⟨-, hq'⟩ := entry_place hq
    · obtain rfl := Option.some.inj hq'
      exact hrecent k e he
    · exact hrecent k q hq'
  · by_cases hk : k = j
    · subst hk
      rw [desk_place_same]
      refine pairwise_entryAbove_congr (fun m hm q hq => ?_) ((hsorted k).sublist List.erase_sublist)
      exact ⟨q, by rw [seat_place_ne (hnodup.mem_erase_iff.mp hm).1]; exact hq, rfl, rfl⟩
    · rw [desk_place_ne hk]
      exact pairwise_of_other hT (junction_of_entry he hj) (fun m hm => seat_place_ne hm) hk (hsorted k)
  · obtain ⟨rfl, hq'⟩ | ⟨-, hq'⟩ := entry_place hq
    · obtain rfl := Option.some.inj hq'
      exact hd k e he
    · exact hd k q hq'
  · by_cases hk : k = j
    · subst hk
      rw [desk_place_same] at hg' ⊢
      obtain rfl := Option.some.inj hg'
      exact ⟨hstep, hamount hd⟩
    · rw [desk_place_ne hk] at hg' ⊢
      exact hbounded k g' hg'

/-! ### A record created (R46) -/

/-- A vacant slot takes a PENDING record checked in now. -/
theorem keeps_created {now : Time} {B : Prop} {T : Table} {i : SlotId} {e : Entry} (hvacant : (T.seat i).entry = none)
    (hstatus : e.status = .pending) (hdecision : e.decision = none) (htime : e.checkInTime = now) :
    Keeps now B T (T.onSeat i fun y => { y with entry := some e }) := by
  intro hT
  have hentry : ∀ {k q}, ((T.onSeat i fun y => { y with entry := some e }).seat k).entry = some q →
      (k = i ∧ q = e) ∨ (k ≠ i ∧ (T.seat k).entry = some q) := by
    intro k q hq
    by_cases hk : k = i
    · subst hk
      rw [seat_onSeat_same] at hq
      exact .inl ⟨rfl, (Option.some.inj hq).symm⟩
    · rw [seat_onSeat_ne hk] at hq
      exact .inr ⟨hk, hq⟩
  have hother : ∀ {k q}, (T.seat k).entry = some q → (T.onSeat i fun y => { y with entry := some e }).seat k = T.seat k := by
    intro k q hq
    refine seat_onSeat_ne ?_ ..
    rintro rfl
    exact absurd (hvacant.symm.trans hq) nofun
  refine ⟨fun j => ?_, fun hrecent => ⟨fun k q hq => ?_, fun hsorted k => ?_⟩,
    fun _ hd => ⟨fun k q hq => ?_, fun hbounded => hbounded⟩⟩
  · obtain ⟨hnodup, hexact, hdecides, hholder, hheld, hdark, hcoord⟩ := hT j
    refine ⟨hnodup, fun k => ?_, fun k q hq hqj hst => ?_, fun g hg => ?_, fun k q tag hq hqj htag => ?_, fun hl => ?_, hcoord⟩
    · rw [desk_onSeat, hexact]
      constructor
      · rintro ⟨q, hq, h⟩
        exact ⟨q, by rw [hother hq]; exact hq, h⟩
      · rintro ⟨q, hq, hqj, hst⟩
        obtain ⟨-, rfl⟩ | ⟨-, hq⟩ := hentry hq
        · exact absurd (hstatus.symm.trans hst) nofun
        · exact ⟨q, hq, hqj, hst⟩
    · obtain ⟨-, rfl⟩ | ⟨-, hq⟩ := hentry hq
      · exact absurd (hstatus.symm.trans hst) nofun
      · exact hdecides k q hq hqj hst
    · obtain ⟨q, hq, h⟩ := hholder g hg
      exact ⟨q, by rw [hother hq]; exact hq, by rw [hother hq]; exact h⟩
    · obtain ⟨-, rfl⟩ | ⟨-, hq⟩ := hentry hq
      · rw [hstatus] at htag
        exact absurd htag nofun
      · exact hheld k q tag hq hqj htag
    · obtain ⟨hnone, hout, hseeks⟩ := hdark hl
      refine ⟨hnone, hout, fun k q hq hqj => ?_⟩
      obtain ⟨-, rfl⟩ | ⟨-, hq⟩ := hentry hq
      · rw [hstatus]
        simp [Seeks, tagOf]
      · exact hseeks k q hq hqj
  · obtain ⟨-, rfl⟩ | ⟨-, hq⟩ := hentry hq
    · rw [htime]
      simp [timeDiff]
    · exact hrecent k q hq
  · refine pairwise_entryAbove_congr (fun m hm q hq => ?_) (hsorted k)
    exact ⟨q, by rw [hother hq]; exact hq, rfl, rfl⟩
  · obtain ⟨-, rfl⟩ | ⟨-, hq⟩ := hentry hq
    · simp [hdecision]
    · exact hd k q hq

/-! ### A junction gone DARK, and the table cleared (R19, R168) -/

/-- An entry of a junction that goes DARK is held where it seeks or holds a grant (R19). -/
def darkEntry (j : JunctionId) (e : Entry) : Entry :=
  if e.junction = j ∧ (e.status = .candidate ∨ (tagOf e.status).isSome = true ∨ e.status = .riding) then
    { e with status := .held .junctionDark }
  else e

/-- A table with a junction DARK: no grant, no outstanding directive, no candidate, no rider (R19, R81). -/
def Table.darken (T : Table) (j : JunctionId) (mode : Option LocalMode) : Table where
  desk := (T.onDesk j fun d =>
    { d with live := false, localMode := mode, candidates := [], grant := none, outstanding := none }).desk
  seat := fun i => { T.seat i with entry := (T.seat i).entry.map (darkEntry j) }

theorem darkEntry_of_ne {j : JunctionId} {e : Entry} (h : e.junction ≠ j) : darkEntry j e = e := if_neg fun h' => h h'.1

theorem junction_darkEntry (j : JunctionId) (e : Entry) : (darkEntry j e).junction = e.junction := by
  unfold darkEntry; split <;> rfl

theorem not_seeks_darkEntry {j : JunctionId} {e : Entry} (h : e.junction = j) : ¬Seeks (darkEntry j e).status := by
  unfold darkEntry
  split
  · simp [Seeks, tagOf]
  · next hnot => exact fun hs => hnot ⟨h, hs⟩

theorem keeps_darken {now : Time} {B : Prop} (T : Table) (j : JunctionId) (mode : Option LocalMode) :
    Keeps now B T (T.darken j mode) := by
  have hentry : ∀ {k q}, ((T.darken j mode).seat k).entry = some q → ∃ e, (T.seat k).entry = some e ∧ darkEntry j e = q :=
    fun h => Option.map_eq_some_iff.mp h
  have hdesk : (T.darken j mode).desk j =
      { T.desk j with live := false, localMode := mode, candidates := [], grant := none, outstanding := none } := by
    rw [Table.darken, desk_onDesk_same]
  have hdesk' : ∀ k, k ≠ j → (T.darken j mode).desk k = T.desk k := fun k hk => by
    rw [Table.darken, desk_onDesk_ne hk]
  have hrank : ∀ e, (darkEntry j e).score = e.score ∧ (darkEntry j e).checkInTime = e.checkInTime
      ∧ (darkEntry j e).decision = e.decision := fun e => by unfold darkEntry; split <;> exact ⟨rfl, rfl, rfl⟩
  intro hT
  refine ⟨fun k => ?_, fun hrecent => ⟨fun k q hq => ?_, fun hsorted k => ?_⟩,
    fun _ hd => ⟨fun k q hq => ?_, fun hbounded k g hg => ?_⟩⟩
  · by_cases hk : k = j
    · subst hk
      refine ⟨by rw [hdesk]; exact List.nodup_nil, fun i => ?_, fun i q hq hqj hst => ?_, fun g hg => ?_,
        fun i q tag hq hqj htag => ?_, fun _ => ?_, fun hl => ?_⟩
      · rw [hdesk]
        refine ⟨nofun, ?_⟩
        rintro ⟨q, hq, hqj, hst⟩
        obtain ⟨e, he, rfl⟩ := hentry hq
        rw [junction_darkEntry] at hqj
        exact absurd (.inl hst) (not_seeks_darkEntry hqj)
      · obtain ⟨e, he, rfl⟩ := hentry hq
        rw [junction_darkEntry] at hqj
        exact absurd (.inl hst) (not_seeks_darkEntry hqj)
      · rw [hdesk] at hg
        exact absurd hg nofun
      · obtain ⟨e, he, rfl⟩ := hentry hq
        rw [junction_darkEntry] at hqj
        exact absurd (.inr (.inl (by rw [htag]; rfl))) (not_seeks_darkEntry hqj)
      · rw [hdesk]
        refine ⟨rfl, rfl, fun i q hq hqj => ?_⟩
        obtain ⟨e, he, rfl⟩ := hentry hq
        rw [junction_darkEntry] at hqj
        exact not_seeks_darkEntry hqj
      · rw [hdesk] at hl
        exact absurd hl nofun
    · refine (hT k).congr (hdesk' k hk) fun i => ?_
      by_cases hij : ∃ e, (T.seat i).entry = some e ∧ e.junction = j
      · obtain ⟨e, he, hej⟩ := hij
        refine .inr ⟨fun q hq hqk => ?_, fun q hq hqk => ?_⟩
        · obtain rfl := Option.some.inj (he.symm.trans hq)
          exact hk (hqk.symm.trans hej)
        · obtain ⟨q', hq', rfl⟩ := hentry hq
          obtain rfl := Option.some.inj (he.symm.trans hq')
          rw [junction_darkEntry] at hqk
          exact hk (hqk.symm.trans hej)
      · refine .inl ?_
        change { T.seat i with entry := (T.seat i).entry.map (darkEntry j) } = T.seat i
        cases he : (T.seat i).entry with
        | none => rw [Option.map_none, ← he]
        | some e => rw [Option.map_some, darkEntry_of_ne fun h => hij ⟨e, he, h⟩, ← he]
  · obtain ⟨e, he, rfl⟩ := hentry hq
    rw [(hrank e).2.1]
    exact hrecent k e he
  · by_cases hk : k = j
    · subst hk
      rw [hdesk]
      exact List.Pairwise.nil
    · rw [hdesk' k hk]
      refine pairwise_entryAbove_congr (fun m hm q hq => ⟨darkEntry j q, ?_, (hrank q).1, (hrank q).2.1⟩) (hsorted k)
      exact Option.map_eq_some_iff.mpr ⟨q, hq, rfl⟩
  · obtain ⟨e, he, rfl⟩ := hentry hq
    rw [(hrank e).2.2]
    exact hd k e he
  · by_cases hk : k = j
    · subst hk
      rw [hdesk] at hg
      exact absurd hg nofun
    · rw [hdesk' k hk] at hg ⊢
      exact hbounded k g hg

/-- A cleared table: no record, no candidate, no grant (R168). -/
theorem keeps_cleared {now : Time} {B : Prop} {T T' : Table} (hseat : ∀ i, (T'.seat i).entry = none)
    (hdesk : ∀ j, (T'.desk j).candidates = [] ∧ (T'.desk j).grant = none
      ∧ ((T'.desk j).outstanding = none ∨ (T'.desk j).outstanding = (T.desk j).outstanding)
      ∧ (T'.desk j).live = (T.desk j).live ∧ (T'.desk j).localMode = (T.desk j).localMode) : Keeps now B T T' := by
  have hentry : ∀ i q, (T'.seat i).entry ≠ some q := fun i q hq => absurd ((hseat i).symm.trans hq) nofun
  refine fun hT => ⟨fun j => ?_, fun _ => ⟨fun i q hq => absurd hq (hentry i q), fun _ j => ?_⟩,
    fun _ _ => ⟨fun i q hq => absurd hq (hentry i q), fun _ j g hg => ?_⟩⟩
  · obtain ⟨hnil, hnone, hout, hlive, hmode⟩ := hdesk j
    refine ⟨by rw [hnil]; exact List.nodup_nil, fun i => ?_, fun i q hq => absurd hq (hentry i q),
      fun g hg => absurd (hnone.symm.trans hg) nofun, fun i q tag hq => absurd hq (hentry i q), fun hl => ?_, fun hl => ?_⟩
    · rw [hnil]
      exact ⟨nofun, fun ⟨q, hq, _⟩ => absurd hq (hentry i q)⟩
    · refine ⟨hnone, ?_, fun i q hq => absurd hq (hentry i q)⟩
      obtain ⟨-, hout', -⟩ := (hT j).dark (hlive ▸ hl)
      exact hout.elim id fun h => h.trans hout'
    · rw [hmode]
      exact (hT j).coord (hlive ▸ hl)
  · rw [(hdesk j).1]
    exact List.Pairwise.nil
  · exact absurd ((hdesk j).2.1.symm.trans hg) nofun

/-! ### The table through the updates of one part -/

theorem tableOf_congr {s t : State} (hjunctions : t.junctions = s.junctions) (hslots : t.slots = s.slots) :
    tableOf t = tableOf s := by
  simp only [tableOf, junctionAt_congr hjunctions, slotAt_congr hslots]

@[simp] theorem tableOf_raise (c : Category) (s : State) : tableOf (raise c s) = tableOf s := tableOf_congr rfl rfl

@[simp] theorem tableOf_raiseIf (b : Bool) (c : Category) (s : State) : tableOf (raiseIf b c s) = tableOf s :=
  tableOf_congr (by simp) (by simp)

@[simp] theorem tableOf_enqueue (i : SlotId) (s : State) : tableOf (enqueue i s) = tableOf s :=
  tableOf_congr (by simp) (by simp)

@[simp] theorem tableOf_dequeue (i : SlotId) (s : State) : tableOf (dequeue i s) = tableOf s := tableOf_congr rfl rfl

@[simp] theorem tableOf_enqueueSlots (p : SlotId → Record → Bool) (s : State) : tableOf (enqueueSlots p s) = tableOf s :=
  tableOf_congr (by simp) (by simp)

@[simp] theorem tableOf_enqueueWhere (p : Record → Bool) (s : State) : tableOf (enqueueWhere p s) = tableOf s :=
  tableOf_congr (by simp) (by simp)

@[simp] theorem tableOf_dropWaiting (j : JunctionId) (p : DirectiveKind → Bool) (s : State) :
    tableOf (dropWaiting j p s) = tableOf s := tableOf_congr rfl rfl

@[simp] theorem tableOf_transmitNext (now : Time) (s : State) : tableOf (transmitNext now s) = tableOf s :=
  tableOf_congr (by simp) (by simp)

@[simp] theorem tableOf_queueDirective (now : Time) (j : JunctionId) (k : DirectiveKind) (tag : Byte) (s : State) :
    tableOf (queueDirective now j k tag s) = tableOf s := tableOf_congr (by simp) (by simp)

@[simp] theorem tableOf_setSegment (k : SegmentId) (g : Option Segment) (s : State) :
    tableOf (setSegment k g s) = tableOf s := tableOf_congr rfl rfl

@[simp] theorem tableOf_setAssembler (link : Link) (a : Assembler) (s : State) :
    tableOf (setAssembler link a s) = tableOf s := by cases link <;> rfl

theorem desk_tableOf (s : State) (j : JunctionId) : (tableOf s).desk j = deskOf (junctionAt s j) := rfl

theorem tableOf_onJunction {s : State} {j : JunctionId} {f : Junction → Junction} (F : Desk → Desk)
    (h : deskOf (f (junctionAt s j)) = F (deskOf (junctionAt s j))) :
    tableOf (onJunction j f s) = (tableOf s).onDesk j F := by
  simp only [tableOf, Table.onDesk, slotAt_onJunction_frame, Table.mk.injEq, and_true]
  funext k
  by_cases hk : k = j
  · subst hk; rw [junctionAt_onJunction_same, Function.update_self, h]
  · rw [junctionAt_onJunction_ne (Ne.symm hk), Function.update_of_ne hk]

/-- A change of a context outside its desk leaves the table. -/
theorem tableOf_onJunction_of_desk {s : State} {j : JunctionId} {f : Junction → Junction}
    (h : deskOf (f (junctionAt s j)) = deskOf (junctionAt s j)) : tableOf (onJunction j f s) = tableOf s := by
  rw [tableOf_onJunction (fun d => d) h, onDesk_id]

theorem tableOf_onSlot (i : SlotId) (f : Slot → Slot) (s : State) :
    tableOf (onSlot i f s) = (tableOf s).onSeat i fun _ => seatOf (f (slotAt s i)) := by
  simp only [tableOf, Table.onSeat, junctionAt_onSlot_frame, Table.mk.injEq, true_and]
  funext k
  by_cases hk : k = i
  · subst hk; rw [slotAt_onSlot_same, Function.update_self]
  · rw [slotAt_onSlot, if_neg (Ne.symm hk), Function.update_of_ne hk]

theorem tableOf_onRecord {s : State} {i : SlotId} {r : Record} (hr : recordAt s i = some r) (f : Record → Record) :
    tableOf (onRecord i f s) = (tableOf s).onSeat i fun y => { y with entry := some (entryOfRecord (f r)) } := by
  have hr' : (slotAt s i).record = some r := hr
  unfold onRecord
  rw [tableOf_onSlot, hr', Option.map_some]
  rfl

theorem onRecord_of_none {s : State} {i : SlotId} (hr : recordAt s i = none) (f : Record → Record) :
    onRecord i f s = s := by
  have hr' : (slotAt s i).record = none := hr
  have hslot : { slotAt s i with record := (slotAt s i).record.map f } = s.slots[i] := by
    rw [hr', Option.map_none, ← hr']
    rfl
  unfold onRecord onSlot
  simp only [hslot]
  simp

/-- A change of a record that the table does not see leaves it. -/
theorem tableOf_onRecord_of_entry {s : State} {i : SlotId} {f : Record → Record}
    (h : ∀ r, recordAt s i = some r → entryOfRecord (f r) = entryOfRecord r) : tableOf (onRecord i f s) = tableOf s := by
  cases hr : recordAt s i with
  | none => rw [onRecord_of_none hr]
  | some r =>
    have hseat : { (tableOf s).seat i with entry := some (entryOfRecord r) } = (tableOf s).seat i := by
      rw [← entry_of_record hr]
    have hT : tableOf (onRecord i f s) = (tableOf s).onSeat i fun _ => (tableOf s).seat i := by
      rw [tableOf_onRecord hr, h r hr, ← hseat]
      rfl
    rw [hT]
    simp [Table.onSeat]

@[simp] theorem tableOf_queueRelease (now : Time) (j : JunctionId) (tag : Byte) (s : State) :
    tableOf (queueRelease now j tag s) = tableOf s := by
  unfold queueRelease
  split
  · exact tableOf_congr rfl rfl
  · rw [tableOf_queueDirective, tableOf_onJunction_of_desk rfl]

@[simp] theorem tableOf_releaseGrant (now : Time) (j : JunctionId) (g : Grant) (s : State) :
    tableOf (releaseGrant now j g s) = tableOf s := by
  unfold releaseGrant
  split
  · rw [tableOf_onJunction_of_desk rfl, tableOf_queueRelease]
  · rfl

@[simp] theorem tableOf_walkOrder (now : Time) (j : JunctionId) (l : List SlotId) (s : State) :
    tableOf (walkOrder now j l s).1 = tableOf s := by
  induction l generalizing s with
  | nil => rfl
  | cons i l ih =>
    unfold walkOrder
    split
    · exact ih s
    · split
      · exact ih s
      · split
        · rw [ih, tableOf_enqueue]
          exact tableOf_onRecord_of_entry fun _ _ => rfl
        · rfl

/-- The slot the walk of an order ends at is in the order. -/
theorem mem_of_walkOrder {now : Time} {j : JunctionId} {l : List SlotId} {s : State} {i : SlotId}
    (h : (walkOrder now j l s).2 = some i) : i ∈ l := by
  induction l generalizing s with
  | nil => exact absurd h nofun
  | cons k l ih =>
    unfold walkOrder at h
    split at h
    · exact List.mem_cons_of_mem _ (ih h)
    · split at h
      · exact List.mem_cons_of_mem _ (ih h)
      · split at h
        · exact List.mem_cons_of_mem _ (ih h)
        · exact Option.some.inj h ▸ List.mem_cons_self

end Sys2Proof.Proofs

/-! What the operations on orders, grants, answers and evaluations keep of the table. -/

namespace Sys2Proof.Proofs

open Sys2Proof.Machine Sys2Proof.Safety Sys2Proof.Laws

section

variable {n : Time} {B : Prop}

/-! ### Tables with one record placed anew -/

theorem eq_place {T : Table} {j : JunctionId} {i : SlotId} {f : Desk → Desk} {y : Seat → Seat} {x : Seat} {l : List SlotId}
    {g : Option Grant} {o : Option Outstanding}
    (hdesk : f (T.desk j) = { T.desk j with candidates := l, grant := g, outstanding := o }) (hseat : y (T.seat i) = x) :
    (T.onDesk j f).onSeat i y = T.place j i x l g o := by
  simp only [Table.place, Table.onDesk, Table.onSeat, hdesk, hseat]

theorem tableOf_eq_place {s t : State} {j : JunctionId} {i : SlotId} {x : Seat} {l : List SlotId} {g : Option Grant}
    {o : Option Outstanding}
    (hdesk : deskOf (junctionAt t j) = { deskOf (junctionAt s j) with candidates := l, grant := g, outstanding := o })
    (hothers : OtherJunctionsSame j s t) (hseat : seatOf (slotAt t i) = x) (hslots : OtherSlotsSame i s t) :
    tableOf t = (tableOf s).place j i x l g o := by
  simp only [tableOf, Table.place, Table.onDesk, Table.onSeat, Table.mk.injEq]
  refine ⟨funext fun k => ?_, funext fun k => ?_⟩
  · by_cases hk : k = j
    · subst hk; rw [Function.update_self, hdesk]
    · rw [Function.update_of_ne hk, hothers k hk]
  · by_cases hk : k = i
    · subst hk; rw [Function.update_self, hseat]
    · rw [Function.update_of_ne hk, hslots k hk]

theorem keeps_of_eq {T T' : Table} (h : T' = T) : Keeps n B T T' := h ▸ .refl n B T

/-! ### The issue check (R106 to R108) -/

theorem offerTerms_spec {c : Junction} {r : Record} {o : OfferTerms} (h : offerTerms c r = some o) :
    (∃ d, r.decision = some d ∧ grantOf d.kind = some (o.kind, o.amount)) ∧ o.step < (activeSteps c).length := by
  simp only [offerTerms, Option.bind_eq_bind, Option.bind_eq_some_iff, Option.pure_def, Option.some.injEq] at h
  obtain ⟨d, hd, ⟨kind, amount⟩, hkind, step, -, entry, hentry, rfl⟩ := h
  exact ⟨⟨d, hd, hkind⟩, (List.getElem?_eq_some_iff.mp hentry).1⟩

theorem amount_of_grantOf {d : Decision} {k : GrantKind} {a : Nat} (h : grantOf d.kind = some (k, a))
    (hd : DecisionBounded d) : 10 ≤ a ∧ a ≤ 400 := by
  unfold DecisionBounded at hd
  cases hk : d.kind with
  | extend m p =>
    rw [hk] at h hd
    obtain ⟨-, rfl⟩ := Prod.mk.inj (Option.some.inj h)
    exact hd
  | advance m p =>
    rw [hk] at h hd
    obtain ⟨-, rfl⟩ := Prod.mk.inj (Option.some.inj h)
    exact hd
  | _ => rw [hk] at h; exact absurd h nofun

theorem otherSlotsSame_makeOffer (now : Time) (j : JunctionId) (i : SlotId) (o : OfferTerms) (s : State) :
    OtherSlotsSame i s (makeOffer now j i o s) := fun k hk => by rw [slotAt_makeOffer, if_neg hk]

theorem keeps_makeOffer (now : Time) {j : JunctionId} {i : SlotId} {o : OfferTerms} {r : Record} {s : State}
    (hr : recordAt s i = some r) (hi : i ∈ (junctionAt s j).candidates) (hlive : isLive (junctionAt s j) = true)
    (hnone : (junctionAt s j).grant = none) (ho : offerTerms (junctionAt s j) r = some o) :
    Keeps n B (tableOf s) (tableOf (makeOffer now j i o s)) := by
  obtain ⟨⟨d, hd, hkind⟩, hstep⟩ := offerTerms_spec ho
  have hslot : slotAt (makeOffer now j i o s) i = { slotAt s i with
      record := some { r with status := .granted ((junctionAt s j).tagCounter + 1) } } := by
    rw [slotAt_makeOffer, if_pos rfl, hr, Option.map_some]
  have hdesk : deskOf (junctionAt (makeOffer now j i o s) j) = { deskOf (junctionAt s j) with
      candidates := (junctionAt s j).candidates.erase i,
      grant := some ⟨false, i, (slotAt s i).generation, o.step, o.kind, o.amount, now⟩,
      outstanding := some { kind := outstandingOf o.kind, tag := (junctionAt s j).tagCounter + 1 } } :=
    congrArg deskOf (junctionAt_makeOffer now j i o s)
  rw [tableOf_eq_place (t := makeOffer now j i o s) hdesk
    (otherJunctionsSame_makeOffer now j i o s) (congrArg seatOf hslot) (otherSlotsSame_makeOffer now j i o s)]
  exact keeps_offered (entry_of_record hr) hi hlive hnone rfl rfl rfl hstep fun hdecided =>
    amount_of_grantOf hkind (hdecided i _ (entry_of_record hr) d hd)

theorem keeps_issueCheck (now : Time) (j : JunctionId) (s : State) :
    Keeps n B (tableOf s) (tableOf (issueCheck now j s)) := by
  unfold issueCheck
  split
  · next hmay =>
    obtain ⟨hlive, -, hnone, -⟩ := (mayOffer_iff s j).mp hmay
    have hwalk := tableOf_walkOrder now j (junctionAt s j).candidates s
    dsimp only
    split
    · exact keeps_of_eq hwalk
    · next i hi =>
      split
      · next o ho =>
        obtain ⟨r, hr, ho⟩ := Option.bind_eq_some_iff.mp ho
        rw [← hwalk]
        refine keeps_makeOffer now hr ?_ ?_ ?_ ho
        · rw [junctionAt_walkOrder]; exact mem_of_walkOrder hi
        · rw [junctionAt_walkOrder]; exact hlive
        · rw [junctionAt_walkOrder]; exact hnone
      · exact keeps_of_eq hwalk
  · exact .refl n B _

/-! ### Ends of a grant -/

/-- The grant of a desk gone. -/
def ungranted (d : Desk) : Desk := { d with grant := none }

/-- The outstanding directive of a desk gone. -/
def unanswered (d : Desk) : Desk := { d with outstanding := none }

theorem tableOf_clearGrant (j : JunctionId) (s : State) : tableOf (clearGrant j s) = (tableOf s).onDesk j ungranted :=
  tableOf_onJunction ungranted rfl

theorem tableOf_clearOutstanding (j : JunctionId) (s : State) :
    tableOf (clearOutstanding j s) = (tableOf s).onDesk j unanswered := tableOf_onJunction unanswered rfl

/-- An end after acceptance is the leaving of the holder, in a state with the same table, and the clearing of the grant. -/
theorem tableOf_endAccepted (now : Time) (j : JunctionId) (g : Grant) (release : Bool) (served : Option Half)
    (leave : State → State) (s : State) :
    ∃ u, tableOf u = tableOf s ∧ u.slots = s.slots
      ∧ tableOf (endAccepted now j g release served leave s) = (tableOf (leave u)).onDesk j ungranted := by
  have hreleased : tableOf (if release then releaseGrant now j g s else s) = tableOf s
      ∧ (if release then releaseGrant now j g s else s).slots = s.slots := by
    split
    · exact ⟨tableOf_releaseGrant .., releaseGrant_slots ..⟩
    · exact ⟨rfl, rfl⟩
  unfold endAccepted
  dsimp only
  cases served with
  | none =>
    refine ⟨_, ?_, ?_, by rw [tableOf_clearGrant, tableOf_enqueueWhere]⟩
    · exact (tableOf_onJunction_of_desk (by rfl)).trans hreleased.1
    · exact hreleased.2
  | some v =>
    refine ⟨_, ?_, ?_, by rw [tableOf_clearGrant, tableOf_enqueueWhere]⟩
    · exact (tableOf_onJunction_of_desk (by rfl)).trans ((tableOf_onJunction_of_desk (by rfl)).trans hreleased.1)
    · exact hreleased.2

/-- An end whose holder is left to the retirement changes no record. -/
theorem endAccepted_id_slots (now : Time) (j : JunctionId) (g : Grant) (release : Bool) (served : Option Half) (s : State) :
    (endAccepted now j g release served id s).slots = s.slots := by
  unfold endAccepted
  cases served <;> cases release <;> simp

/-- A withdrawal leaves the table, or takes the outstanding directive from the junction. -/
theorem tableOf_withdraw (j : JunctionId) (p : DirectiveKind → Bool) (s : State) :
    ∃ o, (o = none ∨ o = (junctionAt s j).outstanding)
      ∧ tableOf (withdraw j p s) = (tableOf s).onDesk j fun d => { d with outstanding := o } := by
  unfold withdraw
  split
  · exact ⟨none, .inl rfl, tableOf_onJunction (fun d => { d with outstanding := none }) rfl⟩
  · refine ⟨_, .inr rfl, ?_⟩
    exact (onDesk_id j (tableOf s)).symm

theorem entry_seatOf_vacate (sl : Slot) : (seatOf (vacate sl)).entry = none := by rw [seatOf, record_vacate, Option.map_none]

theorem settles_vacate (T : Table) (j : JunctionId) (e : Entry) (sl : Slot) : Settles T j e (seatOf (vacate sl)) :=
  fun _ h => absurd ((entry_seatOf_vacate sl).symm.trans h) nofun

theorem placed_kept_vacate {T : Table} {i : SlotId} {e : Entry} (c : List SlotId) (sl : Slot) (h : e.status ≠ .candidate) :
    Placed T i e (seatOf (vacate sl)) c c :=
  .kept rfl (fun h' => absurd h' h) fun _ h' => absurd ((entry_seatOf_vacate sl).symm.trans h') nofun

/-- A record leaves its slot, the order of its junction following. -/
theorem keeps_vacated {s t : State} {i : SlotId} {r : Record} {g : Option Grant} {o : Option Outstanding}
    {l : List SlotId} (hr : recordAt s i = some r)
    (ht : tableOf t = (tableOf s).place r.junction i (seatOf (vacate (slotAt s i))) l g o)
    (hplaced : Placed (tableOf s) i (entryOfRecord r) (seatOf (vacate (slotAt s i))) (junctionAt s r.junction).candidates l)
    (hgrant : GrantFollows (tableOf s) r.junction i (entryOfRecord r) g o) : Keeps n B (tableOf s) (tableOf t) := by
  rw [ht]
  exact keeps_place (entry_of_record hr) rfl (settles_vacate _ _ _ _)
    (fun _ _ _ h => absurd ((entry_seatOf_vacate _).symm.trans h) nofun) hplaced hgrant

theorem slotAt_of_slots {s t : State} (h : t.slots = s.slots) (i : SlotId) : slotAt t i = slotAt s i := slotAt_congr h i

/-- The table once a holder's grant has ended and its slot is vacated. -/
theorem tableOf_holderRetired (now : Time) {i : SlotId} {r : Record} {g : Grant} (o : RetireOutcome) (s : State)
    (hg : (junctionAt s r.junction).grant = some g) :
    ∃ out, (out = none ∨ out = (junctionAt s r.junction).outstanding)
      ∧ tableOf (onSlot i vacate (dequeue i (holderRetired now r.junction r.vehicle o s)))
        = (tableOf s).place r.junction i (seatOf (vacate (slotAt s i))) (junctionAt s r.junction).candidates none out := by
  have hvacated : ∀ (u : State) (f : Desk → Desk), u.slots = s.slots → tableOf u = (tableOf s).onDesk r.junction f →
      tableOf (onSlot i vacate (dequeue i u))
        = ((tableOf s).onDesk r.junction f).onSeat i fun _ => seatOf (vacate (slotAt s i)) := fun u f hslots hu => by
    rw [tableOf_onSlot, tableOf_dequeue, hu, slotAt_dequeue, slotAt_congr hslots]
  unfold holderRetired
  rw [hg]
  dsimp only
  split
  · obtain ⟨u, hu, hslots, hend⟩ := tableOf_endAccepted now r.junction g true (if o = .served then some r.vehicle else none) id s
    refine ⟨_, .inr rfl, ?_⟩
    rw [hvacated _ ungranted ?_ (by rw [hend, id, hu])]
    · exact eq_place rfl rfl
    · exact endAccepted_id_slots ..
  · obtain ⟨out, hout, hw⟩ := tableOf_withdraw r.junction isGrantKind s
    refine ⟨out, hout, ?_⟩
    rw [hvacated _ (fun d => ungranted { d with outstanding := out }) (endOffered_slots ..)
      (by rw [endOffered, tableOf_clearGrant, hw, onDesk_onDesk])]
    exact eq_place rfl rfl

/-- A retirement (R56). -/
theorem keeps_retire (now : Time) (i : SlotId) (o : RetireOutcome) (s : State) :
    Keeps n B (tableOf s) (tableOf (retire now i o s)) := by
  refine .of_sound fun hT => ?_
  unfold retire
  split
  · exact .refl n B _
  · next r hr =>
    have hquiet : ∀ u : State, u.slots = s.slots → tableOf u = tableOf s →
        tableOf (onSlot i vacate (dequeue i u))
          = (tableOf s).place r.junction i (seatOf (vacate (slotAt s i))) (junctionAt s r.junction).candidates
              (junctionAt s r.junction).grant (junctionAt s r.junction).outstanding := fun u hslots hu => by
      rw [tableOf_onSlot, tableOf_dequeue, hu, slotAt_dequeue, slotAt_congr hslots]
      exact (congrArg (Table.onSeat i _) (onDesk_id r.junction (tableOf s)).symm).trans
        (eq_place (T := tableOf s) (f := fun d => d) rfl rfl)
    split
    · next hst =>
      refine Keeps.trans (keeps_vacated hr (g := (junctionAt s r.junction).grant)
        (o := (junctionAt s r.junction).outstanding) (l := (junctionAt s r.junction).candidates.erase i) ?_
        (.removed rfl fun _ h => absurd ((entry_seatOf_vacate _).symm.trans h) nofun)
        (.inl ⟨by rw [entryOfRecord, hst]; rfl, rfl, rfl⟩)) (keeps_issueCheck now _ _)
      rw [tableOf_onSlot, tableOf_dequeue, removeCandidate, onOrder,
        tableOf_onJunction (fun d => { d with candidates := d.candidates.erase i }) rfl]
      exact eq_place rfl rfl
    · next tag hst =>
      have htag : tagOf (entryOfRecord r).status = some tag := by rw [entryOfRecord, hst]; rfl
      obtain ⟨g, hg, hslot⟩ := (hT r.junction).held i _ tag (entry_of_record hr) rfl htag
      obtain ⟨out, hout, ht⟩ := tableOf_holderRetired now (i := i) o s hg
      refine Keeps.trans (keeps_vacated hr ht (placed_kept_vacate _ _ ?_) (.inr ⟨rfl, hout, fun g' hg' => ?_⟩))
        (keeps_issueCheck now _ _)
      · rw [entryOfRecord, hst]; exact nofun
      · obtain rfl := Option.some.inj (hg.symm.trans hg')
        exact hslot
    · next hcandidate hgranted =>
      refine keeps_vacated hr (hquiet s rfl rfl) (placed_kept_vacate _ _ hcandidate) (.inl ⟨?_, rfl, rfl⟩)
      change tagOf r.status = none
      cases hst : r.status with
      | granted tag => exact absurd hst (hgranted tag)
      | _ => rfl

theorem keeps_retireKey (now : Time) (v : Half) (b : Byte) (o : RetireOutcome) (s : State) :
    Keeps n B (tableOf s) (tableOf (retireKey now v b o s)) := by
  unfold retireKey
  split
  · exact keeps_retire now _ o s
  · exact .refl n B _

end

end Sys2Proof.Proofs

/-! What the answers, the ends of a grant, a completion and a moved candidate keep of the table. -/

namespace Sys2Proof.Proofs

open Sys2Proof.Machine Sys2Proof.Safety Sys2Proof.Laws

section

variable {n : Time} {B : Prop}

/-! ### A holder that leaves GRANTED (R112, R116, R119, R122) -/

/-- The seat of a record that takes another state. -/
def Seat.settled (x : Seat) (e : Entry) (st : RecordState) : Seat := { x with entry := some { e with status := st } }

theorem settles_settled {T : Table} {j : JunctionId} {e : Entry} {st : RecordState} (x : Seat) (hj : e.junction = j)
    (htag : tagOf st = none) (hdecides : st = .candidate → Decides e)
    (hdark : (T.desk j).live = false → ¬Seeks st) : Settles T j e (x.settled e st) := by
  intro e' he'
  obtain rfl := Option.some.inj he'
  exact ⟨hj, rfl, htag, hdecides, hdark⟩

/-- The holder of a grant of a sound table. -/
theorem holder_of_sound {T : Table} (hT : TableSound T) {j : JunctionId} {g : Grant} (hg : (T.desk j).grant = some g) :
    ∃ e tag, (T.seat g.slot).entry = some e ∧ e.junction = j ∧ e.status = .granted tag ∧ (T.desk j).live = true := by
  obtain ⟨e, he, hj, -, tag, htag, -⟩ := (hT j).holder g hg
  refine ⟨e, tag, he, hj, ?_, ?_⟩
  · cases hst : e.status with
    | granted t => rw [hst] at htag; rw [Option.some.inj htag]
    | _ => rw [hst] at htag; exact absurd htag nofun
  · cases hl : (T.desk j).live with
    | true => rfl
    | false => exact absurd (hg.symm.trans ((hT j).dark hl).1) nofun

/-- A holder settles in another state as its grant ends, the order following. -/
theorem keeps_grantEnded {T : Table} {j : JunctionId} {g : Grant} {e : Entry} {st : RecordState}
    {l : List SlotId} {o : Option Outstanding} (hg : (T.desk j).grant = some g) (he : (T.seat g.slot).entry = some e)
    (hj : e.junction = j) (hlive : (T.desk j).live = true)
    (hnew : tagOf st = none) (hdecides : st = .candidate → Decides e)
    (hplaced : Placed T g.slot e ((T.seat g.slot).settled e st) (T.desk j).candidates l)
    (ho : o = none ∨ o = (T.desk j).outstanding) :
    Keeps n B T (T.place j g.slot ((T.seat g.slot).settled e st) l none o) := by
  refine keeps_place he hj (settles_settled _ hj hnew hdecides fun h => absurd (hlive.symm.trans h) nofun)
    (fun _ hd e' he' => ?_) hplaced (.inr ⟨rfl, ho, fun g' hg' => ?_⟩)
  · obtain rfl := Option.some.inj he'
    exact hd _ e he
  · obtain rfl := Option.some.inj (hg.symm.trans hg')
    rfl

/-- A slot outside its order enters it at its sorted place, or stays out. -/
theorem placed_settled {T : Table} {i : SlotId} {e : Entry} {st : RecordState} {c l : List SlotId} {u : State}
    (hne : e.status ≠ .candidate) (hi : i ∉ c)
    (hu : (tableOf u).seat = (T.onSeat i fun _ => (T.seat i).settled e st).seat)
    (hl : (st = .candidate ∧ l = insertSorted u i c) ∨ (st ≠ .candidate ∧ l = c)) :
    Placed T i e ((T.seat i).settled e st) c l := by
  obtain ⟨hst, hl⟩ | ⟨hst, hl⟩ := hl
  · exact .inserted _ rfl hst u hu (by rw [hl, List.erase_of_not_mem hi])
  · refine .kept hl (fun h => absurd h hne) fun e' he' h => ?_
    obtain rfl := Option.some.inj he'
    exact absurd h hst

theorem not_mem_candidates_of_granted {T : Table} (hT : TableSound T) {j : JunctionId} {i : SlotId} {e : Entry} {tag : Byte}
    (he : (T.seat i).entry = some e) (hst : e.status = .granted tag) : i ∉ (T.desk j).candidates := by
  intro hi
  obtain ⟨e', he', -, hst'⟩ := entry_of_mem_candidates hT hi
  obtain rfl := Option.some.inj (he.symm.trans he')
  exact absurd (hst.symm.trans hst') nofun

theorem tableOf_insertCandidate (j : JunctionId) (i : SlotId) (s : State) :
    tableOf (insertCandidate j i s) = (tableOf s).onDesk j fun d => { d with candidates := insertSorted s i d.candidates } :=
  tableOf_onJunction (fun d => { d with candidates := insertSorted s i d.candidates }) rfl

/-- The state a handed-back holder takes (R112). -/
def returnedStatus (d : Option Decision) : RecordState :=
  if ((d.map Decision.kind).bind grantOf).isSome then .candidate else .tracking (handBackReason d)

theorem tagOf_returnedStatus (d : Option Decision) : tagOf (returnedStatus d) = none := by
  unfold returnedStatus; split <;> rfl

/-- The table once a holder is handed back, by its stored decision. -/
theorem tableOf_returnHolder {j : JunctionId} {i : SlotId} {s : State} {e : Entry}
    (he : ((tableOf s).seat i).entry = some e) : ∃ l u,
      (tableOf u).seat = ((tableOf s).onSeat i fun x => x.settled e (returnedStatus e.decision)).seat
      ∧ ((returnedStatus e.decision = .candidate ∧ l = insertSorted u i (junctionAt s j).candidates)
          ∨ (returnedStatus e.decision ≠ .candidate ∧ l = (junctionAt s j).candidates))
      ∧ tableOf (returnHolder j i s) = ((tableOf s).onDesk j fun d => { d with candidates := l }).onSeat i
          fun x => x.settled e (returnedStatus e.decision) := by
  obtain ⟨r, hr, rfl⟩ := entry_eq_some_iff.mp he
  have hset : ∀ st, tableOf (onRecord i (fun r => { r with status := st, refreshWanted := true }) s)
      = (tableOf s).onSeat i fun x => x.settled (entryOfRecord r) st := fun st => tableOf_onRecord hr _
  unfold returnHolder
  rw [hr]
  dsimp only
  by_cases hdec : ((r.decision.map Decision.kind).bind grantOf).isSome = true
  · have hst : returnedStatus (entryOfRecord r).decision = .candidate := if_pos hdec
    refine ⟨_, onRecord i (fun r => { r with status := .candidate, refreshWanted := true }) s, ?_, .inl ⟨hst, rfl⟩, ?_⟩
    · rw [hset, hst]
    · rw [if_pos hdec, tableOf_insertCandidate, hset, hst]
      rfl
  · have hst : returnedStatus (entryOfRecord r).decision = .tracking (handBackReason r.decision) := if_neg hdec
    refine ⟨(junctionAt s j).candidates,
      onRecord i (fun r => { r with status := .tracking (handBackReason r.decision), refreshWanted := true }) s, ?_,
      .inr ⟨by rw [hst]; exact nofun, rfl⟩, ?_⟩
    · rw [hst]
      exact congrArg Table.seat (tableOf_onRecord hr _)
    · rw [if_neg hdec, hst, tableOf_onRecord hr]
      exact congrArg (Table.onSeat i _) (onDesk_id j (tableOf s)).symm

/-- A holder is handed back as its grant ends, with the outstanding directive or without it (R112, R122). -/
theorem keeps_returned {s u t : State} {j : JunctionId} {g : Grant} {o o' : Option Outstanding}
    (hg : (junctionAt s j).grant = some g) (ho : o = none ∨ o = (junctionAt s j).outstanding)
    (hu : tableOf u = (tableOf s).onDesk j fun d => { d with grant := none, outstanding := o' })
    (ht : tableOf t = (tableOf (returnHolder j g.slot u)).onDesk j fun d => { d with outstanding := o }) :
    Keeps n B (tableOf s) (tableOf t) := by
  refine .of_sound fun hT => ?_
  obtain ⟨e, tag, he, hj, hst, hlive⟩ := holder_of_sound hT hg
  have hne : e.status ≠ .candidate := by rw [hst]; exact nofun
  have hseat : (tableOf u).seat = (tableOf s).seat := by rw [hu]; rfl
  have hdesk : (junctionAt u j).candidates = (junctionAt s j).candidates := by
    have h := congrArg Desk.candidates (congrFun (congrArg Table.desk hu) j)
    rwa [desk_onDesk_same] at h
  obtain ⟨l, w, hw, hl, hreturned⟩ := tableOf_returnHolder (j := j) (i := g.slot) (s := u) (e := e) (by rw [hseat]; exact he)
  have hplace : tableOf t = (tableOf s).place j g.slot (((tableOf s).seat g.slot).settled e (returnedStatus e.decision)) l none
      o := by
    rw [ht, hreturned, hu, onDesk_onSeat, onDesk_onDesk, onDesk_onDesk]
    exact eq_place rfl rfl
  rw [hplace]
  refine keeps_grantEnded hg he hj hlive (tagOf_returnedStatus _) (fun h => ?_) (placed_settled hne ?_ ?_ (hdesk ▸ hl)) ho
  · by_contra hnot
    exact absurd ((show returnedStatus e.decision = .tracking _ from if_neg hnot).symm.trans h) nofun
  · exact not_mem_candidates_of_granted hT he hst
  · rw [hw]
    change Function.update (tableOf u).seat _ _ = Function.update (tableOf s).seat _ _
    rw [hseat]

theorem tableOf_raiseClear (j : JunctionId) (c : Category) (i : SlotId) (s : State) :
    tableOf (raise c (clearOutstanding j (enqueue i s))) = (tableOf s).onDesk j unanswered := by
  rw [tableOf_raise, tableOf_clearOutstanding, tableOf_enqueue]

/-- A decline or an offer timeout hands the grant back (R112, R113). -/
theorem keeps_handBack {s : State} {j : JunctionId} {g : Grant} (c : Category) (hg : (junctionAt s j).grant = some g) :
    Keeps n B (tableOf s) (tableOf (handBack j g c s)) := by
  refine keeps_returned (u := clearGrant j (dropWaiting j isGrantKind s)) (o := none)
    (o' := (junctionAt s j).outstanding) hg (.inl rfl) ?_ (tableOf_raiseClear ..)
  rw [tableOf_clearGrant, tableOf_dropWaiting]
  rfl

/-- An end after acceptance whose holder settles in another state (R116). -/
theorem tableOf_coverHolder {i : SlotId} {s : State} {e : Entry} (he : ((tableOf s).seat i).entry = some e) :
    tableOf (coverHolder i s) = (tableOf s).onSeat i fun x => x.settled e (.tracking .covered) := by
  obtain ⟨r, hr, rfl⟩ := entry_eq_some_iff.mp he
  rw [coverHolder, tableOf_enqueue, tableOf_onRecord hr]
  rfl

theorem keeps_covered {s : State} {j : JunctionId} {g : Grant} (now : Time) (hg : (junctionAt s j).grant = some g) :
    Keeps n B (tableOf s) (tableOf (endAccepted now j g false none (coverHolder g.slot) s)) := by
  refine .of_sound fun hT => ?_
  obtain ⟨e, tag, he, hj, hst, hlive⟩ := holder_of_sound hT hg
  obtain ⟨u, hu, -, hend⟩ := tableOf_endAccepted now j g false none (coverHolder g.slot) s
  have hplace : tableOf (endAccepted now j g false none (coverHolder g.slot) s)
      = (tableOf s).place j g.slot (((tableOf s).seat g.slot).settled e (.tracking .covered)) (junctionAt s j).candidates none
        (junctionAt s j).outstanding := by
    rw [hend, tableOf_coverHolder (by rw [hu]; exact he), hu, onDesk_onSeat]
    exact eq_place rfl rfl
  rw [hplace]
  refine keeps_grantEnded hg he hj hlive rfl nofun (.kept rfl (fun h => ?_) fun e' he' h => ?_) (.inr rfl)
  · exact absurd (hst.symm.trans h) nofun
  · obtain rfl := Option.some.inj he'
    exact absurd h nofun

/-- A phase report drives grant progress (R119). -/
theorem keeps_progress (now : Time) (j : JunctionId) (ends : GrantKind) (phase : Byte) (s : State) :
    Keeps n B (tableOf s) (tableOf (progress now j ends phase s)) := by
  unfold progress
  split
  · next g hg => exact (keeps_covered now (Option.filter_eq_some_iff.mp hg).1).trans (keeps_issueCheck now j _)
  · exact .refl n B _

/-! ### Answers (R110 to R114, R131, R132) -/

theorem grant_of_matchAnswer_current {s : State} {j : JunctionId} {tag : Byte} {g : Grant}
    (h : matchAnswer s j tag = .current g) : (junctionAt s j).grant = some g := by
  unfold matchAnswer at h
  split at h
  · exact absurd h nofun
  · split at h
    · split at h
      · exact absurd h nofun
      · next hg _ =>
        split at h
        · rw [hg, AnswerMatch.current.inj h]
        · exact absurd h nofun
      · exact absurd h nofun
    · exact absurd h nofun

/-- The current tag of an offer is that of its outstanding directive. -/
theorem currentTag_of_offered {s : State} {j : JunctionId} (hT : TableSound (tableOf s)) {g : Grant}
    (hg : (junctionAt s j).grant = some g) (hnot : g.accepted = false) :
    ∃ tag, currentTag s j = some tag ∧ (junctionAt s j).outstanding = some { kind := outstandingOf g.kind, tag := tag } := by
  obtain ⟨e, he, -, -, tag, htag, hout⟩ := (hT j).holder g hg
  obtain ⟨r, hr, rfl⟩ := entry_eq_some_iff.mp he
  rw [if_neg (by rw [hnot]; exact nofun)] at hout
  refine ⟨tag, ?_, hout⟩
  have htag' : tagOf r.status = some tag := htag
  rw [currentTag, hg]
  dsimp only
  rw [if_neg (by rw [hnot]; exact nofun), grantTagAt, hr, Option.map_some]
  cases hst : r.status with
  | granted x => rw [hst] at htag'; exact htag'
  | _ => rw [hst] at htag'; exact absurd htag' nofun

/-- An answer with the outstanding tag that is not of an offer leaves no offer behind. -/
theorem accepted_of_matchAnswer {s : State} {j : JunctionId} (hT : TableSound (tableOf s)) {o : Outstanding}
    (ho : (junctionAt s j).outstanding = some o) (h : ∀ g, matchAnswer s j o.tag ≠ .current g) (g : Grant)
    (hg : (junctionAt s j).grant = some g) : g.accepted = true := by
  by_contra hnot
  obtain ⟨tag, htag, hout⟩ := currentTag_of_offered hT hg (Bool.eq_false_iff.mpr hnot)
  obtain rfl := Option.some.inj (ho.symm.trans hout)
  refine h g ?_
  unfold matchAnswer
  rw [hout]
  dsimp only
  rw [if_pos rfl, hg]
  cases g.kind <;> exact if_pos htag

theorem outstanding_of_matchAnswer {s : State} {j : JunctionId} {tag : Byte} (h : matchAnswer s j tag ≠ .other) :
    ∃ o, (junctionAt s j).outstanding = some o ∧ o.tag = tag := by
  unfold matchAnswer at h
  split at h
  · exact absurd rfl h
  · next o ho =>
    split at h
    · next htag => exact ⟨o, ho, htag⟩
    · exact absurd rfl h

/-- The outstanding directive goes, answered otherwise than as an offer. -/
theorem keeps_answered {s t : State} {j : JunctionId} {tag : Byte} (hother : matchAnswer s j tag ≠ .other)
    (hcurrent : ∀ g, matchAnswer s j tag ≠ .current g) (ht : tableOf t = (tableOf s).onDesk j unanswered) :
    Keeps n B (tableOf s) (tableOf t) := by
  refine .of_sound fun hT => ht ▸ keeps_gaveUp fun _ => ?_
  obtain ⟨o, ho, rfl⟩ := outstanding_of_matchAnswer hother
  exact accepted_of_matchAnswer hT ho hcurrent

theorem keeps_acceptGrant (now : Time) {j : JunctionId} {g : Grant} {s : State} (hg : (junctionAt s j).grant = some g) :
    Keeps n B (tableOf s) (tableOf (acceptGrant now j g s)) := by
  unfold acceptGrant
  refine Keeps.trans ?_ (keeps_issueCheck now j _)
  rw [tableOf_clearOutstanding, tableOf_enqueueSlots,
    tableOf_onJunction (fun d => { d with grant := some { g with accepted := true } }) rfl, onDesk_onDesk]
  exact keeps_accepted hg

theorem keeps_acceptAnswer (now : Time) (j : JunctionId) (tag : Byte) (s : State) :
    Keeps n B (tableOf s) (tableOf (acceptAnswer now j tag s)) := by
  unfold acceptAnswer
  split
  · next h =>
    refine (keeps_answered (tag := tag) (by rw [h]; exact nofun) (by rw [h]; exact nofun) ?_).trans (keeps_issueCheck now j _)
    rw [tableOf_clearOutstanding, tableOf_onJunction_of_desk rfl]
  · next h => exact keeps_acceptGrant now (grant_of_matchAnswer_current h)
  · next h =>
    refine (keeps_answered (tag := tag) (by rw [h]; exact nofun) (by rw [h]; exact nofun) ?_).trans (keeps_issueCheck now j _)
    rw [tableOf_raise, tableOf_clearOutstanding, tableOf_queueRelease]
  · refine keeps_of_eq ?_
    rw [tableOf_raise]
    split
    · rfl
    · exact tableOf_queueRelease ..

theorem keeps_declineAnswer (now : Time) (j : JunctionId) (tag : Byte) (s : State) :
    Keeps n B (tableOf s) (tableOf (declineAnswer now j tag s)) := by
  unfold declineAnswer
  split
  · next h =>
    exact (keeps_answered (tag := tag) (by rw [h]; exact nofun) (by rw [h]; exact nofun) (tableOf_clearOutstanding ..)).trans
      (keeps_issueCheck now j _)
  · next h => exact (keeps_handBack _ (grant_of_matchAnswer_current h)).trans (keeps_issueCheck now j _)
  · next h =>
    refine (keeps_answered (tag := tag) (by rw [h]; exact nofun) (by rw [h]; exact nofun) ?_).trans (keeps_issueCheck now j _)
    rw [tableOf_raise, tableOf_clearOutstanding]
  · exact keeps_of_eq (tableOf_raise ..)

theorem keeps_answerTimeout (now : Time) (j : JunctionId) (s : State) :
    Keeps n B (tableOf s) (tableOf (answerTimeout now j s)) := by
  unfold answerTimeout
  split
  · next hnone =>
    rw [tableOf_clearOutstanding]
    refine keeps_of_eq ?_
    exact onDesk_of_fixed
      (show unanswered (deskOf (junctionAt s j)) = deskOf (junctionAt s j) by rw [unanswered, deskOf, hnone])
  · next o ho =>
    split
    · next h => exact (keeps_handBack _ (grant_of_matchAnswer_current h)).trans (keeps_issueCheck now j _)
    · next h =>
      refine Keeps.trans ?_ (keeps_issueCheck now j _)
      rw [tableOf_raise, tableOf_clearOutstanding]
      exact .of_sound fun hT => keeps_gaveUp fun _ => accepted_of_matchAnswer hT ho fun g hg => h g hg

end

end Sys2Proof.Proofs

/-! What a completion, a moved candidate, the junction clocks and the corridor clear keep of the table. -/

namespace Sys2Proof.Proofs

open Sys2Proof.Machine Sys2Proof.Safety Sys2Proof.Laws

section

variable {n : Time} {B : Prop}

/-! ### The state at completion (R76, R80) -/

/-- An outcome of EXTEND comes with that decision for storing, and so does one of ADVANCE. -/
theorem stored_of_outcome {r : Reads} {te : Time} :
    (∀ a, (decisionOf r te).2 = .extend a → ∃ p, (decisionOf r te).1 = .store { kind := .extend a p, time := te })
      ∧ ∀ a, (decisionOf r te).2 = .advance a → ∃ p, (decisionOf r te).1 = .store { kind := .advance a p, time := te } := by
  have hforecast : ∀ (f : Forecast) (o : EvalOutcome) (a : Nat), (o ≠ .extend a → forecastOutcome f o ≠ .extend a)
      ∧ (o ≠ .advance a → forecastOutcome f o ≠ .advance a) := fun f o a => by
    cases f <;> simp [forecastOutcome]
  unfold decisionOf
  dsimp only
  split
  · exact ⟨fun a h => absurd h ((hforecast _ _ a).1 nofun), fun a h => absurd h ((hforecast _ _ a).2 nofun)⟩
  split
  · exact ⟨fun a h => absurd h ((hforecast _ _ a).1 nofun), fun a h => absurd h ((hforecast _ _ a).2 nofun)⟩
  split
  · exact ⟨fun a h => absurd h ((hforecast _ _ a).1 nofun), fun a h => absurd h ((hforecast _ _ a).2 nofun)⟩
  · dsimp only
    refine ⟨fun a h => ?_, fun a h => ?_⟩
    · cases hd : decisionCase r (walkOf r te _) _ _ with
      | extend m p => rw [hd] at h; obtain rfl := EvalOutcome.extend.inj h; exact ⟨p, rfl⟩
      | _ => rw [hd] at h; exact absurd h nofun
    · cases hd : decisionCase r (walkOf r te _) _ _ with
      | advance m p => rw [hd] at h; obtain rfl := EvalOutcome.advance.inj h; exact ⟨p, rfl⟩
      | _ => rw [hd] at h; exact absurd h nofun

theorem testedState_cases (cls : PriorityClass) (r : Reads) (score : Nat) :
    testedState cls r score = .candidate ∨ ∃ reason, testedState cls r score = .tracking reason := by
  unfold testedState
  split
  · exact .inl rfl
  split
  · exact .inr ⟨_, rfl⟩
  split
  · exact .inr ⟨_, rfl⟩
  split
  · exact .inr ⟨_, rfl⟩
  · exact .inl rfl

/-- The state at completion is CANDIDATE only for an outcome of EXTEND or ADVANCE. -/
theorem outcome_of_candidate {c : Junction} {cls : PriorityClass} {r : Reads} {e : EvalResult}
    (h : completedState c cls r e = .candidate) : ∃ a, e.outcome = .extend a ∨ e.outcome = .advance a := by
  unfold completedState at h
  split at h
  · exact absurd h nofun
  split at h
  · exact absurd h nofun
  split at h
  case h_4 => split at h <;> exact absurd h nofun
  case h_6 a ho => exact ⟨a, .inl ho⟩
  case h_7 a ho => exact ⟨a, .inr ho⟩
  all_goals exact absurd h (by simp)

theorem tagOf_completedState (c : Junction) (cls : PriorityClass) (r : Reads) (e : EvalResult) :
    tagOf (completedState c cls r e) = none := by
  have htested : tagOf (testedState cls r e.score) = none := by
    obtain h | ⟨reason, h⟩ := testedState_cases cls r e.score <;> rw [h] <;> rfl
  unfold completedState
  split
  · rfl
  split
  · rfl
  split
  case h_4 => split <;> rfl
  case h_6 => exact htested
  case h_7 => exact htested
  all_goals rfl

/-- At a DARK junction a completion holds its record (R80). -/
theorem not_seeks_completedState {c : Junction} {cls : PriorityClass} {r : Reads} {e : EvalResult}
    (h : isLive c = false) : ¬Seeks (completedState c cls r e) := by
  unfold completedState
  split
  · simp [Seeks, tagOf]
  · rw [if_pos (.inr h)]
    simp [Seeks, tagOf]

theorem decides_of_completed {c : Junction} {r : Record} {f : Flight}
    (h : completedState c r.cls f.reads (evaluate f.reads f.te) = .candidate) :
    Decides (entryOfRecord (stored (evaluate f.reads f.te) r)) := by
  obtain ⟨hext, hadv⟩ := stored_of_outcome (r := f.reads) (te := f.te)
  have hdecides : ∀ d, (decisionOf f.reads f.te).1 = .store d → (grantOf d.kind).isSome = true →
      Decides (entryOfRecord (stored (evaluate f.reads f.te) r)) := fun d hd hsome => by
    have hdec : (stored (evaluate f.reads f.te) r).decision = some d := by
      rw [stored, evaluate, hd]; rfl
    unfold Decides entryOfRecord
    rw [hdec]
    exact hsome
  obtain ⟨a, ho | ho⟩ := outcome_of_candidate h
  · obtain ⟨p, hp⟩ := hext a ho
    exact hdecides _ hp rfl
  · obtain ⟨p, hp⟩ := hadv a ho
    exact hdecides _ hp rfl

/-! ### The order follows a completion (R84) -/

theorem tableOf_onOrder (j : JunctionId) (h : List SlotId → List SlotId) (s : State) :
    tableOf (onOrder j h s) = (tableOf s).onDesk j fun d => { d with candidates := h d.candidates } :=
  tableOf_onJunction (fun d => { d with candidates := h d.candidates }) rfl

/-- A placed table whose grant and outstanding directive stay. -/
theorem place_eq_onSeat (T : Table) (j : JunctionId) (i : SlotId) (x : Seat) (l : List SlotId) :
    (T.onSeat i fun _ => x).onDesk j (fun d => { d with candidates := l })
      = T.place j i x l (T.desk j).grant (T.desk j).outstanding := by
  rw [onDesk_onSeat]
  exact eq_place rfl rfl

theorem place_candidates_self (T : Table) (j : JunctionId) (i : SlotId) (x : Seat) :
    (T.onSeat i fun _ => x) = T.place j i x (T.desk j).candidates (T.desk j).grant (T.desk j).outstanding := by
  rw [← place_eq_onSeat]
  exact (onDesk_id j _).symm.trans (congrArg (fun d => { (T.onSeat i fun _ => x) with desk := Function.update T.desk j d }) rfl)

/-- The order after a completion, and the table with it. -/
theorem placed_settleState {T : Table} {i : SlotId} {r : Record} {e : EvalResult} {f : Reads} {u : State}
    (hu : tableOf u = T.onSeat i fun x => { x with entry := some (entryOfRecord (stored e r)) })
    (hmem : i ∈ (T.desk r.junction).candidates ↔ r.status = .candidate) :
    ∃ l, Placed T i (entryOfRecord r)
        ((T.seat i).settled (entryOfRecord (stored e r)) (completedState (junctionAt u r.junction) r.cls f e))
        (T.desk r.junction).candidates l
      ∧ tableOf (settleState i r f e u) = T.place r.junction i
          ((T.seat i).settled (entryOfRecord (stored e r)) (completedState (junctionAt u r.junction) r.cls f e)) l
          (T.desk r.junction).grant (T.desk r.junction).outstanding := by
  obtain ⟨q, hq, hqe⟩ := entry_eq_some_iff.mp (show ((tableOf u).seat i).entry = some (entryOfRecord (stored e r)) by
    rw [hu, seat_onSeat_same])
  have ht : ∀ st, tableOf (onRecord i (fun r => { r with status := st }) u)
      = T.onSeat i fun _ => (T.seat i).settled (entryOfRecord (stored e r)) st := fun st => by
    rw [tableOf_onRecord hq, hu, onSeat_onSeat]
    simp only [Table.onSeat, Seat.settled, ← hqe]
    rfl
  have hcandidates : ∀ st, (junctionAt (onRecord i (fun r => { r with status := st }) u) r.junction).candidates
      = (T.desk r.junction).candidates := fun st => congrArg Desk.candidates (congrFun (congrArg Table.desk (ht st)) _)
  unfold settleState
  dsimp only
  generalize completedState (junctionAt u r.junction) r.cls f e = st
  have hraise : ∀ (b : Bool) (v : State), tableOf (if b then enqueue i v else v) = tableOf v := fun b v => by
    split
    · exact tableOf_enqueue ..
    · rfl
  have hmove : ∀ h : List SlotId → List SlotId, tableOf (onOrder r.junction h (onRecord i (fun r => { r with status := st }) u))
      = T.place r.junction i ((T.seat i).settled (entryOfRecord (stored e r)) st) (h (T.desk r.junction).candidates)
          (T.desk r.junction).grant (T.desk r.junction).outstanding := fun h => by
    rw [tableOf_onOrder, ht, ← place_eq_onSeat]
    rfl
  have hstay : tableOf (onRecord i (fun r => { r with status := st }) u)
      = T.place r.junction i ((T.seat i).settled (entryOfRecord (stored e r)) st) (T.desk r.junction).candidates
          (T.desk r.junction).grant (T.desk r.junction).outstanding := by
    rw [ht, place_candidates_self]
  have hx : ∀ e', ((T.seat i).settled (entryOfRecord (stored e r)) st).entry = some e' → e'.status = st := fun e' he' => by
    obtain rfl := Option.some.inj he'; rfl
  simp only [hraise]
  by_cases hbefore : r.status = .candidate <;> by_cases hafter : st = .candidate <;>
    simp only [followOrder, hbefore, hafter, decide_true, decide_false]
  · split
    · next hscore =>
      exact ⟨_, .kept rfl (fun _ => ⟨_, rfl, rfl, hscore.symm⟩) fun _ _ _ => hbefore, hafter ▸ hstay⟩
    · exact ⟨_, .inserted _ rfl rfl _ (by rw [ht]) rfl, hafter ▸ hmove _⟩
  · exact ⟨_, .removed rfl fun e' he' h => hafter ((hx e' he').symm.trans h), hmove _⟩
  · refine ⟨_, .inserted _ rfl rfl _ (by rw [ht]) ?_, hafter ▸ hmove _⟩
    rw [List.erase_of_not_mem (mt hmem.mp hbefore)]
  · exact ⟨_, .kept rfl (fun h => absurd h hbefore) fun e' he' h => absurd ((hx e' he').symm.trans h) hafter, hstay⟩

end

end Sys2Proof.Proofs

/-! What a completion, a moved candidate and the junction clocks keep of the table. -/

namespace Sys2Proof.Proofs

open Sys2Proof.Machine Sys2Proof.Safety Sys2Proof.Laws

section

variable {n : Time} {B : Prop}

/-! ### Completion (R96 to R98, R115, R120) -/

/-- A stored decision is in its range where the one that stands is and the values read are. -/
theorem decisionBounded_stored {f : Flight} {r : Record} (hreads : ReadsBounded f.reads)
    (hold : ∀ d ∈ r.decision, DecisionBounded d) :
    ∀ d ∈ (stored (evaluate f.reads f.te) r).decision, DecisionBounded d := by
  intro d hd
  have hd : completedDecision r.decision (decisionOf f.reads f.te).1 = some d := hd
  cases hu : (decisionOf f.reads f.te).1 with
  | clear => rw [hu] at hd; exact absurd hd nofun
  | keep => rw [hu] at hd; exact hold d hd
  | store d' =>
    rw [hu] at hd
    obtain rfl := Option.some.inj hd
    exact decisionBounded_decisionOf hreads hu

/-- A record takes its results and the state at completion, the order following it. -/
theorem keeps_settled {T : Table} {i : SlotId} {r : Record} {f : Flight} {c : Junction} {l : List SlotId}
    {g : Option Grant} {o : Option Outstanding} (hB : B → ReadsBounded f.reads)
    (he : (T.seat i).entry = some (entryOfRecord r)) (hlive : (T.desk r.junction).live = isLive c)
    (hplaced : Placed T i (entryOfRecord r)
      ((T.seat i).settled (entryOfRecord (stored (evaluate f.reads f.te) r))
        (completedState c r.cls f.reads (evaluate f.reads f.te))) (T.desk r.junction).candidates l)
    (hgrant : GrantFollows T r.junction i (entryOfRecord r) g o) :
    Keeps n B T (T.place r.junction i ((T.seat i).settled (entryOfRecord (stored (evaluate f.reads f.te) r))
      (completedState c r.cls f.reads (evaluate f.reads f.te))) l g o) := by
  refine keeps_place he rfl (settles_settled _ rfl (tagOf_completedState ..) decides_of_completed fun h =>
    not_seeks_completedState (hlive.symm.trans h)) (fun hb hd e' he' => ?_) hplaced hgrant
  obtain rfl := Option.some.inj he'
  exact decisionBounded_stored (hB hb) (hd i _ he)

theorem ungranted_place (T : Table) (j : JunctionId) (i : SlotId) (x : Seat) (l : List SlotId) (g : Option Grant)
    (o : Option Outstanding) : (T.place j i x l g o).onDesk j ungranted = T.place j i x l none o := by
  rw [Table.place, onDesk_onSeat, onDesk_onDesk]
  exact eq_place rfl rfl

theorem keeps_storeResult (now : Time) {i : SlotId} {r : Record} {f : Flight} {s : State} (hr : recordAt s i = some r)
    (hB : B → ReadsBounded f.reads) :
    Keeps n B (tableOf s) (tableOf (storeResult now i r f.reads (evaluate f.reads f.te) s)) := by
  refine .of_sound fun hT => ?_
  have he := entry_of_record hr
  have hstored : tableOf (onRecord i (stored (evaluate f.reads f.te)) s)
      = (tableOf s).onSeat i fun x => { x with entry := some (entryOfRecord (stored (evaluate f.reads f.te) r)) } :=
    tableOf_onRecord hr _
  have hmem : i ∈ ((tableOf s).desk r.junction).candidates ↔ r.status = .candidate := mem_candidates_iff hT he rfl
  have hlive : ∀ u : State, tableOf u = (tableOf s).onSeat i (fun x =>
      { x with entry := some (entryOfRecord (stored (evaluate f.reads f.te) r)) }) →
      ((tableOf s).desk r.junction).live = isLive (junctionAt u r.junction) := fun u hu =>
    (congrArg Desk.live (congrFun (congrArg Table.desk hu) r.junction)).symm
  have hedit : r.status ≠ .candidate → Keeps n B (tableOf s) (tableOf (onRecord i (stored (evaluate f.reads f.te)) s)) := by
    intro hne
    rw [hstored]
    exact keeps_edit he rfl rfl rfl (fun h => absurd h hne) fun hb hd => decisionBounded_stored (hB hb) (hd i _ he)
  unfold storeResult
  dsimp only
  split
  · next tag hst =>
    have hne : r.status ≠ .candidate := by rw [hst]; exact nofun
    split
    · next g hg =>
      split
      · refine Keeps.trans ?_ (keeps_issueCheck now r.junction _)
        obtain ⟨u, hu, -, hend⟩ := tableOf_endAccepted now r.junction g true none
          (fun t => enqueue i (settleState i r f.reads (evaluate f.reads f.te) t))
          (onRecord i (stored (evaluate f.reads f.te)) s)
        have hu' := hu.trans hstored
        obtain ⟨l, hplaced, hsettled⟩ := placed_settleState (f := f.reads) hu' hmem
        rw [hend, tableOf_enqueue, hsettled, ungranted_place]
        refine keeps_settled hB he (hlive u hu') hplaced (.inr ⟨rfl, .inr rfl, fun g' hg' => ?_⟩)
        obtain ⟨g'', hg'', hslot⟩ := (hT r.junction).held i _ tag he rfl (by rw [entryOfRecord, hst]; rfl)
        obtain rfl := Option.some.inj (hg''.symm.trans hg')
        exact hslot
      · exact hedit hne
    · exact hedit hne
  · next hgranted =>
    have hsettle : Keeps n B (tableOf s) (tableOf (settleState i r f.reads (evaluate f.reads f.te)
        (onRecord i (stored (evaluate f.reads f.te)) s))) := by
      obtain ⟨l, hplaced, hsettled⟩ := placed_settleState (f := f.reads) hstored hmem
      rw [hsettled]
      refine keeps_settled hB he (hlive _ hstored) hplaced (.inl ⟨?_, rfl, rfl⟩)
      change tagOf r.status = none
      cases hst : r.status with
      | granted tag => exact absurd hst (hgranted tag)
      | _ => rfl
    split
    · exact hsettle.trans (keeps_issueCheck now r.junction _)
    · exact hsettle

theorem keeps_completeEvaluation (now : Time) (s : State) :
    Keeps n (∀ f ∈ s.flight, ReadsBounded f.reads) (tableOf s) (tableOf (completeEvaluation now s)) := by
  unfold completeEvaluation
  split
  · exact .refl n _ _
  · next f hf =>
    dsimp only
    split
    · exact keeps_of_eq (tableOf_congr rfl rfl)
    · next r hr =>
      split
      · exact keeps_of_eq (tableOf_congr rfl rfl)
      · split
        · refine keeps_of_eq ((tableOf_enqueue ..).trans ?_)
          exact tableOf_onRecord_of_entry fun _ _ => rfl
        · have h := keeps_storeResult (n := n) (B := ∀ f ∈ s.flight, ReadsBounded f.reads) now (f := f)
            (s := { s with flight := none }) hr fun hb => hb f hf
          exact h

/-- The start of an evaluation changes no record and no junction. -/
theorem tableOf_startEvaluation (now : Time) (s : State) : tableOf (startEvaluation now s) = tableOf s := by
  unfold startEvaluation
  split
  · split <;> exact tableOf_congr rfl rfl
  · rfl

/-! ### A record whose score changes between completions (R42, R88) -/

theorem keeps_rescored (now : Time) {i : SlotId} {r : Record} {f : Record → Record} {v : Nat} {s : State}
    (hr : recordAt s i = some r) (hf : entryOfRecord (f r) = { entryOfRecord r with score := v }) :
    Keeps n B (tableOf s) (tableOf (if isMoved r v then
      issueCheck now r.junction (enqueue i (moveCandidate r.junction i (onRecord i f s)))
      else enqueue i (onRecord i f s))) := by
  refine .of_sound fun hT => ?_
  have he := entry_of_record hr
  have ht : tableOf (onRecord i f s) = (tableOf s).onSeat i fun x =>
      { x with entry := some { entryOfRecord r with score := v } } := by rw [tableOf_onRecord hr, hf]
  split
  · next hmoved =>
    obtain ⟨hst, -⟩ : r.status = .candidate ∧ r.score ≠ v := by simpa [isMoved] using hmoved
    have hst' : (entryOfRecord r).status = .candidate := hst
    refine Keeps.trans ?_ (keeps_issueCheck now r.junction _)
    have hmove : tableOf (moveCandidate r.junction i (onRecord i f s)) = (tableOf s).place r.junction i
        { (tableOf s).seat i with entry := some { entryOfRecord r with score := v } }
        (insertSorted (onRecord i f s) i ((junctionAt s r.junction).candidates.erase i))
        (junctionAt s r.junction).grant (junctionAt s r.junction).outstanding := by
      rw [moveCandidate, tableOf_onOrder, ht, onDesk_onSeat]
      exact eq_place rfl rfl
    rw [tableOf_enqueue, hmove]
    refine keeps_place he rfl (fun e' he' => ?_) (fun _ hd e' he' => ?_) (.inserted _ rfl hst' _ ?_ rfl)
      (.inl ⟨by rw [hst']; rfl, rfl, rfl⟩)
    · obtain rfl := Option.some.inj he'
      exact ⟨rfl, rfl, by change tagOf (entryOfRecord r).status = none; rw [hst']; rfl,
        fun _ => (hT r.junction).decided i (entryOfRecord r) he rfl hst',
        fun hdark => absurd (.inl hst') (((hT r.junction).dark hdark).2.2 i (entryOfRecord r) he rfl)⟩
    · obtain rfl := Option.some.inj he'
      exact hd i (entryOfRecord r) he
    · rw [ht]
      rfl
  · next hmoved =>
    rw [tableOf_enqueue, ht]
    refine keeps_edit he rfl rfl rfl (fun hst => ⟨?_, id⟩) fun _ hd => hd i (entryOfRecord r) he
    by_contra hne
    have hst : r.status = .candidate := hst
    have hne : ¬v = r.score := hne
    exact hmoved (by simpa [isMoved, hst] using Ne.symm hne)

theorem keeps_refreshRecord {m : CheckInMsg} {k : CheckedKey} {i : SlotId} {r : Record} {s : State}
    (hr : recordAt s i = some r) : Keeps n B (tableOf s) (tableOf (refreshRecord m k i r s)) :=
  keeps_rescored s.time hr rfl

theorem keeps_forceRecord (now : Time) {i : SlotId} {r : Record} {s : State} (hr : recordAt s i = some r) :
    Keeps n B (tableOf s) (tableOf (forceRecord now i r s)) := keeps_rescored now hr rfl

/-! ### Going DARK and the sync states (R7 to R12, R19) -/

theorem darken_onDesk {T : Table} {j : JunctionId} {f : Desk → Desk} (m : Option LocalMode)
    (h : (f (T.desk j)).steps = (T.desk j).steps) : (T.onDesk j f).darken j m = T.darken j m := by
  simp only [Table.darken, Table.onDesk, Function.update_self, Function.update_idem, h]

/-- Going DARK takes the grant, the outstanding directive and the candidates from the junction and holds its records. -/
theorem tableOf_goDark (now : Time) (j : JunctionId) (reason : DarkReason) (s : State) :
    tableOf (goDark now j reason s) = (tableOf s).darken j (junctionAt s j).localMode := by
  have hseeks : ∀ r : Record, (ofJunction j r && seeksGrant r) = true ↔ r.junction = j ∧ Seeks r.status := fun r => by
    have hrecord : seeksGrant r = true ↔ Seeks r.status :=
      not_iff_not.mp (by rw [Bool.not_eq_true]; exact seeksGrant_eq_false_iff r)
    rw [Bool.and_eq_true, ofJunction, decide_eq_true_iff, hrecord]
  have hrecord : ∀ r : Record, entryOfRecord (if (ofJunction j r && seeksGrant r) = true then
      { r with status := .held .junctionDark } else r) = darkEntry j (entryOfRecord r) := fun r => by
    by_cases h : (ofJunction j r && seeksGrant r) = true
    · rw [if_pos h]
      exact (if_pos ((hseeks r).mp h)).symm
    · rw [if_neg h]
      exact (if_neg (mt (hseeks r).mpr h)).symm
  unfold goDark
  simp only [tableOf, Table.darken, Table.onDesk, Table.mk.injEq]
  refine ⟨funext fun k => ?_, funext fun i => ?_⟩
  · by_cases hk : k = j
    · subst hk
      rw [Function.update_self]
      simp
      rfl
    · rw [Function.update_of_ne hk]
      simp [junctionAt_onJunction_ne (Ne.symm hk)]
  · rw [slotAt_onRecordsWhere]
    simp only [seatOf, Option.map_map]
    refine congrArg (Seat.mk _) ?_
    change ((slotAt s i).record.map _) = ((slotAt s i).record.map _)
    exact congrArg (fun h => (slotAt s i).record.map h) (funext hrecord)

theorem keeps_goDark (now : Time) (j : JunctionId) (reason : DarkReason) (s : State) :
    Keeps n B (tableOf s) (tableOf (goDark now j reason s)) := 
  tableOf_goDark now j reason s ▸ keeps_darken (tableOf s) j _

/-- A junction goes DARK as its local mode or its liveness changes. -/
theorem keeps_goDark_onJunction (now : Time) (j : JunctionId) (reason : DarkReason) {f : Junction → Junction} (s : State)
    {m : Option LocalMode} (hf : deskOf (f (junctionAt s j)) = { deskOf (junctionAt s j) with localMode := m }) :
    Keeps n B (tableOf s) (tableOf (goDark now j reason (onJunction j f s))) := by
  rw [tableOf_goDark, tableOf_onJunction (fun d => { d with localMode := m }) hf, darken_onDesk _ rfl]
  exact keeps_darken (tableOf s) j _

/-- The reason of a DARK junction is not of the table. -/
theorem tableOf_setReason {j : JunctionId} {s : State} (reason : DarkReason) (hdark : isLive (junctionAt s j) = false) :
    tableOf (setReason j reason s) = tableOf s :=
  tableOf_onJunction_of_desk (by simp only [deskOf, hdark]; rfl)

theorem keeps_loseLink (now : Time) (j : JunctionId) (s : State) :
    Keeps n B (tableOf s) (tableOf (loseLink now j s)) := by
  unfold loseLink
  dsimp only
  split
  · exact keeps_goDark_onJunction now j .linkLost s (m := none) rfl
  · next hdark =>
    have hdark : isLive (junctionAt s j) = false := Bool.eq_false_iff.mpr hdark
    rw [tableOf_setReason _ (by rw [junctionAt_onJunction_same]; exact hdark),
      tableOf_onJunction (fun d => { d with localMode := none }) rfl]
    refine keeps_clock rfl rfl rfl id (fun h => ?_) (.inl rfl)
    exact absurd (hdark.symm.trans h) nofun

theorem keeps_reportMode (now : Time) (j : JunctionId) (m : LocalMode) (s : State) :
    Keeps n B (tableOf s) (tableOf (reportMode now j m s)) := by
  unfold reportMode
  dsimp only
  split
  · split
    · next hm =>
      rw [tableOf_onJunction (fun d => { d with localMode := some m }) rfl]
      exact keeps_clock rfl rfl rfl id (fun _ => .inl (congrArg some hm)) (.inl rfl)
    · exact keeps_goDark_onJunction now j .localMode s (m := some m) rfl
  · next r hsync =>
    have hdark : isLive (junctionAt s j) = false := by rw [isLive, hsync]
    rw [tableOf_setReason _ (by rw [junctionAt_onJunction_same]; exact hdark),
      tableOf_onJunction (fun d => { d with localMode := some m }) rfl]
    refine keeps_clock rfl rfl rfl id (fun h => ?_) (.inl rfl)
    exact absurd (hdark.symm.trans h) nofun

theorem tableOf_renewLiveness (j : JunctionId) (s : State) : tableOf (renewLiveness j s) = tableOf s := by
  refine tableOf_onJunction_of_desk ?_
  have hlive := isLive_heard j s
  rw [junctionAt_heard] at hlive
  unfold regained
  split
  · next h =>
    simp only [deskOf, activeSteps, isLive, h.2]
  · rfl

theorem keeps_enterLive (now : Time) (j : JunctionId) (count : Byte) {s : State}
    (hmode : (junctionAt s j).localMode = some .coord) : Keeps n B (tableOf s) (tableOf (enterLive now j count s)) := by
  unfold enterLive
  refine Keeps.trans ?_ (keeps_issueCheck now j _)
  rw [tableOf_enqueueWhere, tableOf_onJunction (fun d => { d with live := true }) rfl]
  exact keeps_clock rfl rfl rfl nofun (fun _ => .inl hmode) (.inl rfl)

theorem keeps_tryEnterLive (now : Time) (j : JunctionId) (count : Byte) (s : State) :
    Keeps n B (tableOf s) (tableOf (tryEnterLive now j count s)) := by
  unfold tryEnterLive
  split
  · next hmode => exact keeps_enterLive now j count hmode
  · next hmode =>
    refine .of_sound fun hT => ?_
    have hdark : isLive (junctionAt s j) = false := by
      by_contra hlive
      exact hmode ((hT j).coord (Bool.not_eq_false _ ▸ hlive))
    exact keeps_of_eq (tableOf_setReason _ hdark)

/-! ### The adoption of a plan (R11, R122) -/

theorem tableOf_markFlight (j : JunctionId) (s : State) : tableOf (markFlight j s) = tableOf s := by
  unfold markFlight
  split
  · split
    · refine tableOf_onRecord_of_entry fun r _ => ?_
      split <;> rfl
    · rfl
  · rfl

theorem tableOf_markCandidates (j : JunctionId) (s : State) : tableOf (markCandidates j s) = tableOf s := by
  unfold markCandidates
  generalize (junctionAt s j).candidates = l
  induction l generalizing s with
  | nil => rfl
  | cons i l ih => exact (ih _).trans (tableOf_onRecord_of_entry fun _ _ => rfl)

theorem grant_returnHolder (j : JunctionId) (i : SlotId) (s : State) :
    (junctionAt (returnHolder j i s) j).grant = (junctionAt s j).grant := by
  unfold returnHolder
  split
  · rfl
  · split <;> simp [insertCandidate, onOrder]

theorem grant_endForAdoption (j : JunctionId) (s : State) : (junctionAt (endForAdoption j s) j).grant = none := by
  unfold endForAdoption
  split
  · rw [grant_returnHolder, clearGrant, junctionAt_onJunction_same]
  · next h => exact h

/-- An adoption ends the grant of a junction without a RELEASE (R122, R134). -/
theorem keeps_endForAdoption (j : JunctionId) (p : DirectiveKind → Bool) (s : State) :
    Keeps n B (tableOf s) (tableOf (endForAdoption j (withdraw j p s))) := by
  obtain ⟨o, ho, hw⟩ := tableOf_withdraw j p s
  have hgrant : (junctionAt (withdraw j p s) j).grant = (junctionAt s j).grant := by
    have h := congrArg Desk.grant (congrFun (congrArg Table.desk hw) j)
    rwa [desk_onDesk_same] at h
  unfold endForAdoption
  split
  · next g hg =>
    refine keeps_returned (o := o) (o' := o) (hgrant.symm.trans hg) ho (u := clearGrant j (withdraw j p s)) ?_ ?_
    · rw [tableOf_clearGrant, hw, onDesk_onDesk]
      rfl
    · have hout : (junctionAt (returnHolder j g.slot (clearGrant j (withdraw j p s))) j).outstanding = o := by
        have hreturn : ∀ (i : SlotId) (u : State), (junctionAt (returnHolder j i u) j).outstanding
            = (junctionAt u j).outstanding := fun i u => by
          unfold returnHolder
          split
          · rfl
          · split <;> simp [insertCandidate, onOrder]
        rw [hreturn, clearGrant, junctionAt_onJunction_same]
        have h := congrArg Desk.outstanding (congrFun (congrArg Table.desk hw) j)
        rwa [desk_onDesk_same] at h
      have hself : (fun d : Desk => { d with outstanding := o })
          ((tableOf (returnHolder j g.slot (clearGrant j (withdraw j p s)))).desk j)
          = (tableOf (returnHolder j g.slot (clearGrant j (withdraw j p s)))).desk j := by
        rw [← hout]; rfl
      exact (onDesk_of_fixed hself).symm
  · next hnone =>
    rw [hw]
    refine keeps_onDesk rfl (fun hsound => ?_) fun _ g hg => absurd ((hgrant.symm.trans hnone).symm.trans hg) nofun
    obtain ⟨hnodup, hexact, hdecides, hholder, hheld, hdark, hcoord⟩ := hsound
    refine ⟨by simpa using hnodup, by simpa using hexact, hdecides, fun g hg => ?_, by simpa using hheld, fun hl => ?_,
      by simpa using hcoord⟩
    · rw [desk_onDesk_same] at hg
      exact absurd ((hgrant.symm.trans hnone).symm.trans hg) nofun
    · rw [desk_onDesk_same] at hl ⊢
      obtain ⟨hng, hout, hseeks⟩ := hdark hl
      exact ⟨hng, ho.elim id fun h => h.trans hout, hseeks⟩

theorem keeps_adoptPlan (now : Time) (j : JunctionId) (count : Byte) (p : Plan) (s : State) :
    Keeps n B (tableOf s) (tableOf (adoptPlan now j count p s)) := by
  unfold adoptPlan
  dsimp only
  refine Keeps.trans ?_ (keeps_tryEnterLive now j count _)
  rw [tableOf_onJunction (fun d => { d with steps := p.steps.length }) rfl]
  split
  · refine Keeps.trans ?_ (keeps_clock rfl rfl rfl id (fun h => .inr ⟨h, rfl⟩) (.inr (.inl ?_)))
    · rw [tableOf_markCandidates, ← tableOf_markFlight j s]
      exact keeps_endForAdoption j _ (markFlight j s)
    · rw [tableOf_markCandidates]
      exact grant_endForAdoption ..
  · next hdark =>
    rw [tableOf_markFlight]
    exact keeps_clock rfl rfl rfl id (fun h => .inr ⟨h, rfl⟩) (.inr (.inr (Bool.eq_false_iff.mpr hdark)))

/-! ### The next cycle (R13, R130) -/

theorem keeps_queueTrim (now : Time) (j : JunctionId) {s : State} (hlive : isLive (junctionAt s j) = true) :
    Keeps n B (tableOf s) (tableOf (queueTrim now j s)) := by
  unfold queueTrim
  dsimp only
  split
  · next h =>
    obtain ⟨hgrant, -⟩ := (canDirect_iff s j).mp h.2
    rw [tableOf_queueDirective, tableOf_onJunction (fun d => { d with outstanding := some _ }) rfl]
    exact keeps_trimmed _ hlive hgrant
  · exact .refl n B _

theorem keeps_nextCycle (now : Time) (j : JunctionId) (count : Byte) {s : State} (hlive : isLive (junctionAt s j) = true) :
    Keeps n B (tableOf s) (tableOf (nextCycle now j count s)) := by
  have hcycle : ∀ p, tableOf (onJunction j (nextCycleContext p now count) s) = tableOf s := fun p =>
    tableOf_onJunction_of_desk (by simp only [deskOf, hlive]; rfl)
  unfold nextCycle
  dsimp only
  generalize hu : raiseIf (slips s.policy now count (junctionAt s j)) .syncSlip
    (raiseIf (beyondDebtLimit s.policy now (junctionAt s j)) .debtLimit
      (onJunction j (nextCycleContext s.policy now count) s)) = u
  have hu' : tableOf u = tableOf s := by rw [← hu, tableOf_raiseIf, tableOf_raiseIf, hcycle]
  have hlive' : isLive (junctionAt u j) = true := (congrArg Desk.live (congrFun (congrArg Table.desk hu') j)).trans hlive
  have htrim : Keeps n B (tableOf s) (tableOf (enqueueWhere (ofJunction j) (queueTrim now j u))) := by
    rw [tableOf_enqueueWhere, ← hu']
    exact keeps_queueTrim now j hlive'
  split
  · exact htrim.trans (keeps_issueCheck now j _)
  · exact htrim

theorem keeps_mismatch (now : Time) (j : JunctionId) (s : State) :
    Keeps n B (tableOf s) (tableOf (mismatch now j s)) := by
  unfold mismatch
  split
  · exact .refl n B _
  · split
    · exact keeps_goDark now j .planMismatch s
    · next hdark => exact keeps_of_eq (tableOf_setReason _ (Bool.eq_false_iff.mpr hdark))

/-- A cycle start that adopts no plan (R10). -/
theorem keeps_ofActivePlan (now : Time) (j : JunctionId) (count planId : Byte) (s : State) :
    Keeps n B (tableOf s) (tableOf (if planIdOf (junctionAt s j).activePlan = some planId then
      if isLive (junctionAt s j) then nextCycle now j count s else tryEnterLive now j count s
      else mismatch now j s)) := by
  split
  · split
    · next hlive => exact keeps_nextCycle now j count hlive
    · exact keeps_tryEnterLive now j count s
  · exact keeps_mismatch now j s

theorem keeps_cycleStart (now : Time) (j : JunctionId) (count planId : Byte) (s : State) :
    Keeps n B (tableOf s) (tableOf (cycleStart now j count planId s)) := by
  unfold cycleStart
  dsimp only
  split
  · split
    · exact keeps_adoptPlan now j count _ s
    · exact keeps_ofActivePlan now j count planId s
  · exact keeps_ofActivePlan now j count planId s

/-! ### Phase reports (R17, R18) -/

theorem keeps_phaseStart (now : Time) (j : JunctionId) (phase : Byte) (s : State) :
    Keeps n B (tableOf s) (tableOf (phaseStart now j phase s)) := by
  unfold phaseStart
  dsimp only
  split
  · split
    · exact keeps_of_eq (tableOf_raise ..)
    · refine Keeps.trans (keeps_of_eq ?_) (keeps_progress now j .advance phase _)
      rw [tableOf_raiseIf, setStep, tableOf_onJunction_of_desk rfl]
  · exact .refl n B _

theorem keeps_phaseEnd (now : Time) (j : JunctionId) (phase : Byte) (s : State) :
    Keeps n B (tableOf s) (tableOf (phaseEnd now j phase s)) := by
  unfold phaseEnd
  dsimp only
  split
  · split
    · exact keeps_of_eq (tableOf_raise ..)
    · refine Keeps.trans (keeps_of_eq ?_) (keeps_progress now j .extend phase _)
      rw [tableOf_raiseIf, setStep, tableOf_onJunction_of_desk rfl]
  · exact .refl n B _

end

end Sys2Proof.Proofs

/-! What the policy, the corridor clear and every command keep of the table, and the table's obligations. -/

namespace Sys2Proof.Proofs

open Sys2Proof.Machine Sys2Proof.Safety Sys2Proof.Laws

section

variable {n : Time} {B : Prop}

/-! ### The policy (R16, R164) -/

theorem keeps_foldl {α : Type} {F : State → α → State} (hF : ∀ t x, Keeps n B (tableOf t) (tableOf (F t x))) (l : List α)
    (s : State) : Keeps n B (tableOf s) (tableOf (l.foldl F s)) := by
  induction l generalizing s with
  | nil => exact .refl n B _
  | cons x l ih => exact (hF s x).trans (ih _)

theorem keeps_resetCycleLimit (now : Time) (j : JunctionId) (s : State) :
    Keeps n B (tableOf s) (tableOf (resetCycleLimit now j s)) := by
  unfold resetCycleLimit
  dsimp only
  split
  · next hlive =>
    split
    · exact keeps_goDark now j .noCycle s
    · exact keeps_of_eq (tableOf_onJunction_of_desk (by simp only [deskOf, hlive]; rfl))
  · exact .refl n B _

theorem keeps_policySet (b : PolicyBody) (s : State) : Keeps n B (tableOf s) (tableOf (policySet b s).1) := by
  unfold policySet
  generalize List.finRange 16 = l
  split
  · exact Keeps.trans (keeps_of_eq (tableOf_congr (t := { s with policy := policyOf b }) rfl rfl))
      (keeps_foldl (fun t j => keeps_resetCycleLimit s.time j t) _ _)
  · exact .refl n B _

/-! ### The corridor clear (R168) -/

/-- A junction as the clear leaves its grant and its outstanding directive: each stays or goes (R121, R123). -/
def GrantCleared (d d' : Desk) : Prop :=
  (d'.grant = none ∨ d'.grant = d.grant) ∧ (d'.outstanding = none ∨ d'.outstanding = d.outstanding)
    ∧ d'.live = d.live ∧ d'.localMode = d.localMode

theorem GrantCleared.refl (d : Desk) : GrantCleared d d := ⟨.inr rfl, .inr rfl, rfl, rfl⟩

theorem GrantCleared.trans {d d' d'' : Desk} (h : GrantCleared d d') (h' : GrantCleared d' d'') : GrantCleared d d'' := by
  obtain ⟨hg, ho, hl, hm⟩ := h
  obtain ⟨hg', ho', hl', hm'⟩ := h'
  exact ⟨hg'.elim .inl fun e => hg.imp e.trans e.trans, ho'.elim .inl fun e => ho.imp e.trans e.trans, hl'.trans hl,
    hm'.trans hm⟩

theorem grantCleared_clearAccepted (now : Time) (j k : JunctionId) (s : State) :
    GrantCleared ((tableOf s).desk k) ((tableOf (clearAccepted now j s)).desk k)
      ∧ (k = j → ((tableOf (clearAccepted now j s)).desk k).grant = none) := by
  unfold clearAccepted
  split
  · rw [tableOf_clearGrant, tableOf_releaseGrant]
    by_cases hk : k = j
    · subst hk
      rw [desk_onDesk_same]
      exact ⟨⟨.inl rfl, .inr rfl, rfl, rfl⟩, fun _ => rfl⟩
    · rw [desk_onDesk_ne hk]
      exact ⟨.refl _, fun h => absurd h hk⟩
  · next hnone => exact ⟨.refl _, fun h => h ▸ hnone⟩

theorem grantCleared_clearOffered (j k : JunctionId) (s : State) :
    GrantCleared ((tableOf s).desk k) ((tableOf (clearOffered j s)).desk k)
      ∧ (k = j → (∀ g, (junctionAt s k).grant = some g → g.accepted = false) →
        ((tableOf (clearOffered j s)).desk k).grant = none) := by
  unfold clearOffered
  split
  · obtain ⟨o, ho, hw⟩ := tableOf_withdraw j isGrantKind s
    rw [endOffered, tableOf_clearGrant, hw, onDesk_onDesk]
    by_cases hk : k = j
    · subst hk
      rw [desk_onDesk_same]
      exact ⟨⟨.inl rfl, ho, rfl, rfl⟩, fun _ _ => rfl⟩
    · rw [desk_onDesk_ne hk]
      exact ⟨.refl _, fun h => absurd h hk⟩
  · next hmode =>
    refine ⟨.refl _, fun hk hoffered => ?_⟩
    subst hk
    cases hg : (junctionAt s k).grant with
    | none => exact hg
    | some g => exact absurd (by rw [modeOf, hg]; simp [hoffered g hg]) hmode

/-- A fold over junctions that clears each junction it comes to clears every junction of its list. -/
theorem grantCleared_foldl {F : State → JunctionId → State} {Q : State → Prop}
    (hF : ∀ t j k, GrantCleared ((tableOf t).desk k) ((tableOf (F t j)).desk k)) (hQ : ∀ t j, Q t → Q (F t j))
    (hnone : ∀ t j, Q t → ((tableOf (F t j)).desk j).grant = none) (l : List JunctionId) (s : State) (hs : Q s)
    (k : JunctionId) : GrantCleared ((tableOf s).desk k) ((tableOf (l.foldl F s)).desk k)
      ∧ (k ∈ l → ((tableOf (l.foldl F s)).desk k).grant = none) := by
  induction l generalizing s with
  | nil => exact ⟨.refl _, nofun⟩
  | cons j l ih =>
    obtain ⟨hcleared, hmem⟩ := ih (F s j) (hQ s j hs)
    refine ⟨(hF s j k).trans hcleared, fun hk => ?_⟩
    obtain rfl | hk := List.mem_cons.mp hk
    · exact hcleared.1.elim id fun h => h.trans (hnone s k hs)
    · exact hmem hk

theorem insertRanked_perm (rank : JunctionId → Nat) (x : JunctionId) (l : List JunctionId) :
    (insertRanked rank x l).Perm (x :: l) := by
  induction l with
  | nil => exact .refl _
  | cons y l ih =>
    unfold insertRanked
    split
    · exact .refl _
    · exact (ih.cons y).trans (.swap x y l)

theorem acceptedJunctions_perm (s : State) : (acceptedJunctions s).Perm
    ((List.finRange 16).filter fun j => decide (modeOf (junctionAt s j) = .extending) ||
      decide (modeOf (junctionAt s j) = .advancing)) := by
  unfold acceptedJunctions
  generalize (List.finRange 16).filter _ = l
  induction l with
  | nil => exact .refl _
  | cons x l ih => exact (insertRanked_perm _ x _).trans (ih.cons x)

theorem modeOf_accepted_iff (c : Junction) :
    (modeOf c = .extending ∨ modeOf c = .advancing) ↔ ∃ g, c.grant = some g ∧ g.accepted = true := by
  unfold modeOf
  cases c.grant with
  | none => simp
  | some g =>
    cases hk : g.kind with
    | extend => cases ha : g.accepted <;> simp [ha, hk]
    | advance => cases ha : g.accepted <;> simp [ha, hk]

/-- The clear takes the junctions with an accepted grant (R123). -/
theorem mem_acceptedJunctions {s : State} {j : JunctionId} :
    j ∈ acceptedJunctions s ↔ ∃ g, (junctionAt s j).grant = some g ∧ g.accepted = true := by
  rw [(acceptedJunctions_perm s).mem_iff, List.mem_filter, ← modeOf_accepted_iff, Bool.or_eq_true, decide_eq_true_iff,
    decide_eq_true_iff]
  exact and_iff_right (List.mem_finRange j)

/-- The state once the clear has ended every accepted grant. -/
def releasedGrants (now : Time) (s : State) : State := (acceptedJunctions s).foldl (fun t j => clearAccepted now j t) s

theorem junctionAt_corridorClear (now : Time) (s : State) (j : JunctionId) :
    junctionAt (corridorClear now s) j = emptyOrder (junctionAt (endedGrants now s) j) := by
  rw [corridorClear_eq]
  simp [junctionAt, emptiedTable]

theorem slotAt_corridorClear (now : Time) (s : State) (i : SlotId) :
    slotAt (corridorClear now s) i = vacate (slotAt (endedGrants now s) i) := by
  rw [corridorClear_eq]
  simp [slotAt, emptiedTable]

/-- Every grant that the releases leave is an offer. -/
theorem offered_of_releasedGrants {now : Time} {s : State} {k : JunctionId} {g : Grant}
    (hg : (junctionAt (releasedGrants now s) k).grant = some g) : g.accepted = false := by
  obtain ⟨⟨hsame, -⟩, hnone⟩ := grantCleared_foldl (Q := fun _ => True)
    (fun t j k => (grantCleared_clearAccepted now j k t).1) (fun _ _ _ => trivial)
    (fun t j _ => (grantCleared_clearAccepted now j j t).2 rfl) (acceptedJunctions s) s trivial k
  have hg' : (junctionAt s k).grant = some g := hsame.elim (fun h => absurd (h.symm.trans hg) nofun) fun h => h.symm.trans hg
  by_contra hacc
  have hgone := hnone (mem_acceptedJunctions.mpr ⟨g, hg', Bool.not_eq_false _ ▸ hacc⟩)
  exact absurd (hgone.symm.trans hg) nofun

/-- The clear ends every grant, and leaves the sync state and the local mode (R123, R168). -/
theorem grantCleared_endedGrants (now : Time) (s : State) (j : JunctionId) :
    GrantCleared ((tableOf s).desk j) ((tableOf (endedGrants now s)).desk j)
      ∧ ((tableOf (endedGrants now s)).desk j).grant = none := by
  have haccepted := grantCleared_foldl (Q := fun _ => True) (fun t j k => (grantCleared_clearAccepted now j k t).1)
    (fun _ _ _ => trivial) (fun t j _ => (grantCleared_clearAccepted now j j t).2 rfl) (acceptedJunctions s) s trivial j
  have hcleared := fun l => grantCleared_foldl (Q := fun t => ∀ k g, (junctionAt t k).grant = some g → g.accepted = false)
    (fun t j k => (grantCleared_clearOffered j k t).1)
    (fun t j h k g hg => (grantCleared_clearOffered j k t).1.1.elim (fun e => absurd (e.symm.trans hg) nofun)
      fun e => h k g (e.symm.trans hg))
    (fun t j h => (grantCleared_clearOffered j j t).2 rfl (h j)) l (releasedGrants now s)
    (fun _ _ => offered_of_releasedGrants) j
  have hall := List.mem_finRange j
  unfold endedGrants
  generalize List.finRange 16 = l at hall ⊢
  exact ⟨haccepted.1.trans (hcleared l).1, (hcleared l).2 hall⟩

theorem keeps_corridorClear (now : Time) (s : State) : Keeps n B (tableOf s) (tableOf (corridorClear now s)) := by
  refine keeps_cleared (fun i => ?_) fun j => ?_
  · change (seatOf (slotAt (corridorClear now s) i)).entry = none
    rw [slotAt_corridorClear, entry_seatOf_vacate]
  · obtain ⟨⟨-, hout, hlive, hmode⟩, hgrant⟩ := grantCleared_endedGrants now s j
    rw [desk_tableOf, junctionAt_corridorClear]
    generalize endedGrants now s = u at *
    exact ⟨rfl, hgrant, hout, hlive, hmode⟩

/-! ### Every command -/

theorem keeps_updated (m : UpdateMsg) (s : State) : Keeps n B (tableOf s) (tableOf (update m s)) := by
  refine keeps_of_eq ?_
  unfold update
  split
  · exact tableOf_raise ..
  · split
    · rfl
    · split
      · rw [tableOf_enqueue]
        exact tableOf_onRecord_of_entry fun _ _ => rfl
      · rfl

theorem keeps_checkIn (m : CheckInMsg) (s : State) : Keeps s.time B (tableOf s) (tableOf (checkIn m s)) := by
  unfold checkIn
  split
  · exact keeps_of_eq (tableOf_raise ..)
  · next k hk =>
    split
    · unfold createRecord
      split
      · next i hi =>
        have hvacant : recordAt s i = none := by simpa using List.find?_some hi
        have hvacant' : (slotAt s i).record = none := hvacant
        rw [tableOf_enqueue, tableOf_onSlot]
        exact keeps_created (e := entryOfRecord (newRecord s m k)) (by
          change (slotAt s i).record.map entryOfRecord = none
          rw [hvacant', Option.map_none]) rfl rfl rfl
      · exact keeps_of_eq (tableOf_raise ..)
    · split
      · next hr => exact keeps_refreshRecord hr
      · exact .refl _ B _

theorem keeps_deliverDetection (m : DetectionMsg) (s : State) :
    Keeps s.time B (tableOf s) (tableOf (deliverDetection m s)) := by
  cases m with
  | checkIn c => exact keeps_checkIn c s
  | update u => exact keeps_updated u s
  | checkOut v j => exact keeps_retireKey s.time v j .served s
  | cancel v j => exact keeps_retireKey s.time v j .withdrawn s

theorem tableOf_handSample (now : Time) (i j : JunctionId) (sample : Int) (s : State) :
    tableOf (handSample now i j sample s) = tableOf s := by
  have htied : ∀ k u, tableOf (enqueueTied k u) = tableOf u := fun k u => tableOf_enqueueWhere ..
  unfold handSample
  split
  · rfl
  · split
    · rfl
    · split
      · unfold takeSample
        dsimp only
        split
        · exact tableOf_setSegment ..
        · rw [htied, tableOf_setSegment]
      · unfold takeOverrun
        split
        · split
          · exact tableOf_setSegment ..
          · rw [htied, tableOf_raise, tableOf_setSegment]
        · rfl
        · exact tableOf_setSegment ..

theorem tableOf_passageAt (now : Time) (v : Half) (j : JunctionId) (s : State) :
    tableOf (passageAt now v j s) = tableOf s := by
  unfold passageAt
  split
  · refine (tableOf_congr rfl rfl : tableOf _ = tableOf _).trans ?_
    split
    · split
      · rfl
      · exact tableOf_handSample ..
    · rfl
  · rfl

theorem keeps_deliverJunction (m : JunctionMsg) (s : State) : Keeps n B (tableOf s) (tableOf (deliverJunction m s)) := by
  unfold deliverJunction
  split
  · exact keeps_of_eq (tableOf_raise ..)
  · next j _ =>
    refine Keeps.trans (keeps_of_eq (tableOf_renewLiveness j s)) ?_
    cases m with
    | status _ mode =>
      change Keeps n B _ (tableOf (deliverStatus j mode _))
      unfold deliverStatus
      split
      · exact keeps_reportMode _ j _ _
      · exact keeps_of_eq (tableOf_raise ..)
    | cycleStart _ count planId => exact keeps_cycleStart _ j count planId _
    | phaseStart _ phase => exact keeps_phaseStart _ j phase _
    | phaseEnd _ phase => exact keeps_phaseEnd _ j phase _
    | passage _ _ v =>
      exact (keeps_retireKey _ v (byteOf j.val) .served _).trans (keeps_of_eq (tableOf_passageAt ..))
    | accept _ tag => exact keeps_acceptAnswer _ j tag _
    | decline _ tag _ => exact keeps_declineAnswer _ j tag _

theorem keeps_discardFrame (link : Link) (s : State) : Keeps n B (tableOf s) (tableOf (discardFrame link s)) :=
  keeps_of_eq ((tableOf_raise ..).trans (tableOf_setAssembler ..))

theorem keeps_receiveByte (link : Link) (b : Byte) (e : Bool) (s : State) :
    Keeps s.time B (tableOf s) (tableOf (receiveByte link b e s)) := by
  have hset : ∀ a, Keeps s.time B (tableOf s) (tableOf (setAssembler link a s)) := fun a =>
    keeps_of_eq (tableOf_setAssembler ..)
  unfold receiveByte
  split
  · split
    · exact hset _
    · exact .refl _ B _
  · split
    · exact keeps_discardFrame link s
    · unfold takeByte
      split
      · exact hset _
      · split
        · exact hset _
        · exact keeps_discardFrame link s
      · exact hset _
      · split
        · exact hset _
        · unfold completeFrame
          dsimp only
          split
          · refine Keeps.trans (hset .hunt) ?_
            unfold deliverFrame
            split
            · split
              · exact keeps_deliverDetection _ _
              · exact .refl _ B _
            · split
              · exact keeps_deliverJunction _ _
              · exact .refl _ B _
          · exact keeps_discardFrame link s

theorem keeps_sentEvent (now : Time) (s : State) : Keeps n B (tableOf s) (tableOf (sentEvent now s)) := by
  unfold sentEvent
  split
  · exact .refl n B _
  · dsimp only
    split
    · exact keeps_of_eq ((tableOf_transmitNext ..).trans (tableOf_congr rfl rfl))
    · split
      · exact keeps_of_eq ((tableOf_transmitNext ..).trans ((tableOf_onJunction_of_desk rfl).trans (tableOf_congr rfl rfl)))
      · refine Keeps.trans (keeps_of_eq ?_) (keeps_issueCheck now _ _)
        rw [tableOf_transmitNext, reportSent]
        refine (tableOf_onJunction_of_desk ?_).trans (tableOf_congr rfl rfl)
        split <;> rfl

theorem keeps_act (c : Command) (s : State) : Keeps n B (tableOf s) (tableOf (act c s).1) := by
  cases c with
  | planStage b =>
    refine keeps_of_eq ?_
    change tableOf (planStage b s).1 = tableOf s
    unfold planStage
    split
    · rfl
    · split
      · split
        · rfl
        · exact tableOf_onJunction_of_desk rfl
      · rfl
  | segmentSet b =>
    refine keeps_of_eq ?_
    change tableOf (segmentSet b s).1 = tableOf s
    unfold segmentSet
    split
    · rfl
    · split
      · split
        · rfl
        · split
          · split
            · rfl
            · exact (tableOf_enqueueWhere ..).trans (tableOf_setSegment ..)
          · rfl
      · rfl
  | policySet b => exact keeps_policySet b s
  | junctionSuspend b =>
    refine keeps_of_eq ?_
    change tableOf (junctionSuspend b s).1 = tableOf s
    unfold junctionSuspend
    split
    · exact tableOf_onJunction_of_desk rfl
    · rfl
  | junctionResume b =>
    change Keeps n B _ (tableOf (junctionResume b s).1)
    unfold junctionResume
    split
    · exact Keeps.trans (keeps_of_eq (tableOf_onJunction_of_desk rfl)) (keeps_issueCheck s.time _ _)
    · exact .refl n B _
  | recordLookup name =>
    refine keeps_of_eq ?_
    change tableOf (recordLookup name s).1 = tableOf s
    unfold recordLookup
    split
    · rfl
    · split <;> exact tableOf_congr rfl rfl
  | recordRetire name =>
    change Keeps n B _ (tableOf (recordRetire name s).1)
    unfold recordRetire
    split
    · exact .refl n B _
    · exact keeps_retire s.time _ .retired s
  | recordForce name =>
    change Keeps n B _ (tableOf (recordForce name s).1)
    unfold recordForce
    split
    · exact .refl n B _
    · split
      · next hr => exact keeps_forceRecord s.time hr
      · exact .refl n B _
  | listStart b =>
    refine keeps_of_eq ?_
    change tableOf (listStart b s).1 = tableOf s
    unfold listStart
    split <;> exact tableOf_congr rfl rfl
  | listContinue =>
    refine keeps_of_eq ?_
    change tableOf (listContinue s).1 = tableOf s
    unfold listContinue
    split
    · rfl
    · split <;> exact tableOf_congr rfl rfl
  | noticeWrite t a m =>
    refine keeps_of_eq ?_
    change tableOf (noticeWrite t a m s).1 = tableOf s
    obtain ⟨hslots, hjunctions⟩ : (noticeWrite t a m s).1.slots = s.slots ∧ (noticeWrite t a m s).1.junctions = s.junctions := by
      unfold noticeWrite
      split_ifs <;> exact ⟨rfl, rfl⟩
    exact tableOf_congr hjunctions hslots
  | corridorClear => exact keeps_corridorClear s.time s
  | planRead | segmentRead | policyRead | junctionQuery | noticeRead => exact .refl n B _

theorem keeps_takeCommand (k : Nat) (c : Command) (s : State) :
    Keeps n B (tableOf s) (tableOf (takeCommand k c s)) := by
  unfold takeCommand
  split
  · exact keeps_of_eq ((tableOf_raise ..).trans (tableOf_congr rfl rfl))
  · exact (keeps_act c s).trans (keeps_of_eq (tableOf_congr rfl rfl))

theorem keeps_transaction (first : Byte) (rest : List Byte) (s : State) :
    Keeps n B (tableOf s) (tableOf (transaction first rest s)) := by
  unfold transaction
  split
  · split
    · exact keeps_takeCommand _ _ s
    · exact keeps_of_eq ((tableOf_raise ..).trans (tableOf_congr rfl rfl))
  · split
    · unfold readResponse
      dsimp only
      split <;> exact keeps_of_eq (tableOf_congr rfl rfl)
    · exact keeps_of_eq ((tableOf_raise ..).trans (tableOf_congr rfl rfl))

end

end Sys2Proof.Proofs

/-! The request table stays consistent through every step (O9). -/

namespace Sys2Proof.Proofs

open Sys2Proof.Machine Sys2Proof.Safety Sys2Proof.Laws

/-- A deadline's expiry leaves what its effect gives and the state as it is gives (R3). -/
theorem exists_next_of_expiry {P : State → Prop} {now : Time} {deadline : Option Time} {f : Time → State} {s : State}
    (h : ∀ d, P (f d)) (hs : P s) : ∃ t, (match due now deadline with
        | some d => .next (f d)
        | none => .next s : Host.Outcome State Fault Refusal) = .next t ∧ P t := by
  split
  · exact ⟨_, rfl, h _⟩
  · exact ⟨s, rfl, hs⟩

/-- Every command but POWER_ON and the tick keeps the table. -/
theorem keeps_exec (c : Instr) (s : State) (hpower : c ≠ .powerOn) (htick : c ≠ .corridorTimeTick) :
    ∃ t, exec c s = .next t ∧ Keeps s.time (∀ f ∈ s.flight, ReadsBounded f.reads) (tableOf s) (tableOf t) := by
  have hrefl := Keeps.refl s.time (∀ f ∈ s.flight, ReadsBounded f.reads) (tableOf s)
  have hhunt : ∀ link, tableOf (setAssembler link .hunt s) = tableOf s := fun link => tableOf_setAssembler ..
  have hdetection : ∀ m, Keeps s.time (∀ f ∈ s.flight, ReadsBounded f.reads) (tableOf s)
      (tableOf (deliverDetection m (setAssembler .detection .hunt s))) := fun m =>
    hhunt .detection ▸ keeps_deliverDetection m (setAssembler .detection .hunt s)
  have hjunction : ∀ m, Keeps s.time (∀ f ∈ s.flight, ReadsBounded f.reads) (tableOf s)
      (tableOf (deliverJunction m (setAssembler .junction .hunt s))) := fun m =>
    hhunt .junction ▸ keeps_deliverJunction m (setAssembler .junction .hunt s)
  cases c with
  | powerOn => exact absurd rfl hpower
  | corridorTimeTick => exact absurd rfl htick
  | checkIn | update | checkOut | cancel => exact ⟨_, rfl, hdetection _⟩
  | badFrame link => exact ⟨_, rfl, keeps_discardFrame link s⟩
  | gapDeadlineExpiry link => exact exists_next_of_expiry (fun _ => keeps_discardFrame link s) hrefl
  | foreignJunctionFrame | status | cycleStart | phaseStart | phaseEnd | passage | accept | decline =>
    exact ⟨_, rfl, hjunction _⟩
  | livenessExpiry j => exact exists_next_of_expiry (fun d => keeps_loseLink d j s) hrefl
  | cycleLimitExpiry j => exact exists_next_of_expiry (fun d => keeps_goDark d j .noCycle s) hrefl
  | recordExpiry i =>
    exact exists_next_of_expiry (fun d => (keeps_retire d i .expired s).trans (keeps_of_eq (tableOf_raise ..))) hrefl
  | acceptDeadlineExpiry j => exact exists_next_of_expiry (fun d => keeps_answerTimeout d j s) hrefl
  | passageEntryExpiry v => exact exists_next_of_expiry (fun _ => keeps_of_eq (tableOf_congr rfl rfl)) hrefl
  | staleDeadlineExpiry k =>
    simp only [exec, execStaleDeadlineExpiry]
    split
    · exact exists_next_of_expiry
        (fun _ => keeps_of_eq ((tableOf_enqueueWhere ..).trans (tableOf_setSegment ..))) hrefl
    · exact ⟨s, rfl, hrefl⟩
  | evaluationStart => exact ⟨_, rfl, keeps_of_eq (tableOf_startEvaluation ..)⟩
  | evaluationCompletion => exact ⟨_, rfl, keeps_completeEvaluation _ s⟩
  | sentEvent => exact ⟨_, rfl, keeps_sentEvent _ s⟩
  | linkByteReceived link b e => exact ⟨_, rfl, keeps_receiveByte link b e s⟩
  | commandFrameDiscarded first rest => exact ⟨_, rfl, keeps_transaction first rest s⟩
  | readTransaction n =>
    refine ⟨_, rfl, keeps_of_eq ?_⟩
    unfold readResponse
    dsimp only
    split <;> exact tableOf_congr rfl rfl
  | responseReady =>
    refine ⟨_, rfl, keeps_of_eq ?_⟩
    unfold makeReady
    split <;> exact tableOf_congr rfl rfl
  | _ => exact ⟨_, rfl, keeps_takeCommand _ _ s⟩

/-- A step powers the part on, leaves the table, or keeps it at the time it is taken. -/
theorem keeps_step {s t : State} (h : step s = .next t) : (∃ u, t = poweredOn u) ∨ tableOf t = tableOf s
    ∨ Keeps s.time (∀ f ∈ s.flight, ReadsBounded f.reads) (tableOf s) (tableOf t) := by
  obtain rfl | ⟨c, rest, -, hexec⟩ := step_cases h
  · exact .inr (.inl rfl)
  by_cases hpower : c = .powerOn
  · subst hpower
    exact .inl ⟨_, (Host.Outcome.next.inj hexec).symm⟩
  by_cases htick : c = .corridorTimeTick
  · subst htick
    obtain rfl := Host.Outcome.next.inj hexec
    exact .inr (.inl (tableOf_congr rfl rfl))
  · obtain ⟨u, hu, hkeeps⟩ := keeps_exec c { s with pending := rest } hpower htick
    obtain rfl := Host.Outcome.next.inj (hu.symm.trans hexec)
    exact .inr (.inr hkeeps)

/-! ### Power-on (R37, R89, R105) -/

theorem entry_poweredOn (s : State) (i : SlotId) : ((tableOf (poweredOn s)).seat i).entry = none := by
  change (slotAt (poweredOn s) i).record.map entryOfRecord = none
  rw [slotAt_poweredOn]
  rfl

theorem tableSound_poweredOn (s : State) : TableSound (tableOf (poweredOn s)) := by
  have hentry : ∀ i q, ((tableOf (poweredOn s)).seat i).entry ≠ some q := fun i q hq =>
    absurd ((entry_poweredOn s i).symm.trans hq) nofun
  intro j
  have hdesk : (tableOf (poweredOn s)).desk j = ⟨false, none, 0, [], none, none⟩ := by
    rw [desk_tableOf, junctionAt_poweredOn]; rfl
  refine ⟨by rw [hdesk]; exact List.nodup_nil, fun i => ?_, fun i q hq => absurd hq (hentry i q), fun g hg => ?_,
    fun i q tag hq => absurd hq (hentry i q), fun _ => ?_, fun hl => ?_⟩
  · rw [hdesk]
    exact ⟨nofun, fun ⟨q, hq, _⟩ => absurd hq (hentry i q)⟩
  · rw [hdesk] at hg
    exact absurd hg nofun
  · rw [hdesk]
    exact ⟨rfl, rfl, fun i q hq => absurd hq (hentry i q)⟩
  · rw [hdesk] at hl
    exact absurd hl nofun

theorem tableSorted_poweredOn (s : State) : TableSorted (tableOf (poweredOn s)) := fun j => by
  rw [desk_tableOf, junctionAt_poweredOn]
  exact List.Pairwise.nil

theorem tableGranted_poweredOn (s : State) : TableGranted (tableOf (poweredOn s)) := fun j g hg => by
  rw [desk_tableOf, junctionAt_poweredOn] at hg
  exact absurd hg nofun

/-! ### The keys and the check-in times (R2, R38) -/

/-- A record after an elementary change stood in its slot before, with its key and its check-in time. -/
theorem Change.origin {s t : State} (h : Change s t) {i : SlotId} {r : Record} (hr : recordAt t i = some r) :
    ∃ q, recordAt s i = some q ∧ r.vehicle = q.vehicle ∧ r.junction = q.junction ∧ r.checkInTime = q.checkInTime := by
  cases h.slot i with
  | kept e => exact ⟨r, by rw [recordAt, ← e]; exact hr, rfl, rfl, rfl⟩
  | record q q' hq hmove e =>
    obtain rfl := Option.some.inj ((recordAt_of_slotAt e).symm.trans hr)
    refine ⟨q, hq, ?_⟩
    cases hmove <;> exact ⟨rfl, rfl, rfl⟩
  | vacated e => rw [recordAt_of_vacated e] at hr; exact absurd hr nofun
  | restated q hq _ e =>
    obtain rfl := Option.some.inj ((recordAt_of_slotAt e).symm.trans hr)
    exact ⟨q, hq, rfl, rfl, rfl⟩
  | stored f q _ _ hq _ _ _ e =>
    obtain rfl := Option.some.inj ((recordAt_of_slotAt e).symm.trans hr)
    exact ⟨q, hq, rfl, rfl, rfl⟩

theorem keysDiffer_poweredOn (s : State) : KeysDiffer (poweredOn s) := fun i k r hr => by
  rw [recordAt_poweredOn] at hr; exact absurd hr nofun

/-- A record created under a key that no slot holds leaves one record to a key. -/
theorem keysDiffer_created {s : State} {m : CheckInMsg} {k : CheckedKey} {i : SlotId} (hs : KeysDiffer s)
    (hfree : KeyFree s m.vehicle k.junction) :
    KeysDiffer (onSlot i (fun sl => { sl with record := some (newRecord s m k) }) s) := by
  intro x y r hr q hq hvehicle hjunction
  obtain ⟨rfl, rfl⟩ | ⟨-, hr'⟩ := recordAt_created hr <;> obtain ⟨rfl, rfl⟩ | ⟨-, hq'⟩ := recordAt_created hq
  · rfl
  · exact absurd ⟨hvehicle.symm, hjunction.symm⟩ (hfree y q hq')
  · exact absurd ⟨hvehicle, hjunction⟩ (hfree x r hr')
  · exact hs x y r hr' q hq' hvehicle hjunction

theorem step_keeps_keysDiffer {s t : State} (hs : KeysDiffer s) (h : step s = .next t) : KeysDiffer t := by
  refine step_keeps (fun _ _ h => h) keysDiffer_poweredOn (fun _ h => h) (fun u v h hu i k r hr q hq hvehicle hjunction => ?_)
    (fun _ _ _ _ hu _ _ hfree => keysDiffer_created hu hfree) hs h
  obtain ⟨r', hr', hv, hj, -⟩ := h.origin hr
  obtain ⟨q', hq', hv', hj', -⟩ := h.origin hq
  exact hu i k r' hr' q' hq' (by rw [← hv, ← hv', hvehicle]) (by rw [← hj, ← hj', hjunction])

theorem checkInsRecent_change {s t : State} (h : Change s t) (hs : CheckInsRecent s) : CheckInsRecent t := by
  intro i r hr
  obtain ⟨q, hq, -, -, htime⟩ := h.origin hr
  rw [htime, h.time_pending.1]
  exact hs i q hq

/-- The next tick makes a check-in time later than now only where it is 2^31 ds old. -/
theorem timeDiff_ticked {now c : Time} (h : 0 ≤ timeDiff now c) (hold : timeDiff (now + 1) c ≠ -2147483648) :
    0 ≤ timeDiff (now + 1) c := by
  obtain ⟨h1, h2, k, hk⟩ := timeDiff_spec now c
  obtain ⟨h1', h2', k', hk'⟩ := timeDiff_spec (now + 1) c
  have htick : (now + 1).toNat = (now.toNat + 1) % 4294967296 := BitVec.toNat_add ..
  omega

theorem step_keeps_checkInsRecent {s t : State} (hs : CheckInsRecent s) (h : step s = .next t)
    (hold : ∀ i : SlotId, ∀ r ∈ recordAt t i, timeDiff t.time r.checkInTime ≠ -2147483648) : CheckInsRecent t := by
  obtain rfl | ⟨c, rest, -, hexec⟩ := step_cases h
  · exact hs
  obtain ⟨-, rfl⟩ | ⟨-, rfl⟩ | hrun | ⟨u, m, k, i, hrun, -, -, -, -, -, rfl⟩ := exec_cases hexec
  · intro i r hr
    rw [recordAt_poweredOn] at hr
    exact absurd hr nofun
  · exact fun i r hr => timeDiff_ticked (hs i r hr) (hold i r hr)
  · exact hrun.keeps (fun _ _ => checkInsRecent_change) (P := CheckInsRecent) hs
  · have hu : CheckInsRecent u := hrun.keeps (fun _ _ => checkInsRecent_change) (P := CheckInsRecent) hs
    refine checkInsRecent_change (.enqueued i) fun x r hr => ?_
    obtain ⟨-, rfl⟩ | ⟨-, hr⟩ := recordAt_created hr
    · simp [newRecord, timeDiff]
    · exact hu x r hr

/-- Settles O9: every command keeps the table of the orders and the grants, and every elementary change the keys and the
check-in times. -/
theorem stepKeepsTheTableConsistent : Obligations.StepKeepsTheTableConsistent := by
  refine ⟨fun s t hs h => ?_, fun s t hs hresults hgrants h => ?_, fun s t hs hrecent hsorted h => ?_,
    fun s t => step_keeps_checkInsRecent⟩
  · obtain ⟨hkeys, hT⟩ := (tableConsistent_iff s).mp hs
    refine (tableConsistent_iff t).mpr ⟨step_keeps_keysDiffer hkeys h, ?_⟩
    obtain ⟨u, rfl⟩ | hsame | hkeeps := keeps_step h
    · exact tableSound_poweredOn u
    · exact hsame ▸ hT
    · exact (hkeeps hT).1
  · have hT := ((tableConsistent_iff s).mp hs).2
    rw [grantsBounded_iff] at hgrants ⊢
    obtain ⟨u, rfl⟩ | hsame | hkeeps := keeps_step h
    · exact tableGranted_poweredOn u
    · exact hsame ▸ hgrants
    · exact ((hkeeps hT).2.2 (fun f hf => (hresults.2 f hf).1) (tableDecided_of_resultsBounded hresults)).2 hgrants
  · have hT := ((tableConsistent_iff s).mp hs).2
    rw [ordersSorted_iff] at hsorted ⊢
    obtain ⟨u, rfl⟩ | hsame | hkeeps := keeps_step h
    · exact tableSorted_poweredOn u
    · exact hsame ▸ hsorted
    · exact ((hkeeps hT).2.1 ((checkInsRecent_iff s).mp hrecent)).2 hsorted

end Sys2Proof.Proofs

/-! The directive queue with what the junctions hold of it, and the moves that keep it to its bounds (R104, R118, R155 to
R158). -/

namespace Sys2Proof.Proofs

open Sys2Proof.Machine Sys2Proof.Safety Sys2Proof.Laws

/-! ### The line a state holds -/

/-- What the rules of the directive queue see of a junction: the release queued flag, the outstanding directive's tag, and
whether an accept deadline is present. -/
structure LineDesk where
  releaseQueued : Bool
  tag : Option Byte
  timed : Bool

/-- What they see of a state. -/
structure Line where
  queue : List Directive
  busy : Bool
  desk : JunctionId → LineDesk

def lineDeskOf (c : Junction) : LineDesk := ⟨c.releaseQueued, c.outstanding.map Outstanding.tag, c.acceptDeadline.isSome⟩

def lineOf (s : State) : Line := ⟨s.directives, s.transmitter.isSome, fun j => lineDeskOf (junctionAt s j)⟩

/-- The entries of a queue for a junction whose kind is a RELEASE, or is not. -/
def sideOf (q : List Directive) (j : JunctionId) (release : Bool) : List Directive :=
  q.filter fun d => decide (d.junction = j) && (isRelease d.kind == release)

theorem mem_sideOf {q : List Directive} {j : JunctionId} {b : Bool} {d : Directive} :
    d ∈ sideOf q j b ↔ d ∈ q ∧ d.junction = j ∧ isRelease d.kind = b := by
  simp [sideOf]

/-- The queue and one junction agree (R104, R118, R155). -/
structure LineDeskSound (q : List Directive) (j : JunctionId) (d : LineDesk) : Prop where
  releases : (sideOf q j true).length = if d.releaseQueued then 1 else 0
  others : (sideOf q j false).length ≤ 1
  waiting : ∀ e ∈ sideOf q j false, e.sending = false → d.tag = some e.tag
  timed : d.timed = true → d.tag.isSome = true ∧ sideOf q j false = []

/-- The queue and the junctions agree, and the entries SENDING are as many as the transmitter has. -/
structure LineWaits (L : Line) : Prop where
  sending : (L.queue.filter Directive.sending).length = if L.busy then 1 else 0
  desks : ∀ j, LineDeskSound L.queue j (L.desk j)

/-- The line is sound: no entry waits while the transmitter is IDLE, besides (R157). -/
structure LineSound (L : Line) : Prop extends LineWaits L where
  idle : L.busy = false → L.queue = []

/-- A queue is made of its junctions' sides. -/
theorem length_eq_sum_sides (q : List Directive) :
    q.length = ∑ j : JunctionId, ((sideOf q j true).length + (sideOf q j false).length) := by
  induction q with
  | nil => simp [sideOf]
  | cons d q ih =>
    have hcons : ∀ j, (sideOf (d :: q) j true).length + (sideOf (d :: q) j false).length
        = ((sideOf q j true).length + (sideOf q j false).length) + if d.junction = j then 1 else 0 := fun j => by
      by_cases hj : d.junction = j <;> cases hr : isRelease d.kind <;> simp [sideOf, hj, hr] <;> omega
    calc (d :: q).length = (∑ j : JunctionId, ((sideOf q j true).length + (sideOf q j false).length)) + 1 := by
          rw [List.length_cons, ih]
      _ = ∑ j : JunctionId, (((sideOf q j true).length + (sideOf q j false).length) + if d.junction = j then 1 else 0) := by
          rw [Finset.sum_add_distrib (g := fun j => if d.junction = j then 1 else 0), Finset.sum_ite_eq]
          simp
      _ = _ := Finset.sum_congr rfl fun j _ => (hcons j).symm

theorem length_le_of_desks {q : List Directive} {d : JunctionId → LineDesk} (h : ∀ j, LineDeskSound q j (d j)) :
    q.length ≤ 32 := by
  have hside : ∀ j, (sideOf q j true).length + (sideOf q j false).length ≤ 2 := fun j => by
    have hreleases := (h j).releases
    have hothers := (h j).others
    split at hreleases <;> omega
  calc q.length = ∑ j : JunctionId, ((sideOf q j true).length + (sideOf q j false).length) := length_eq_sum_sides q
    _ ≤ ∑ _j : JunctionId, 2 := Finset.sum_le_sum fun j _ => hside j
    _ = 32 := by simp

theorem directivesSound_iff (s : State) : DirectivesSound s ↔ LineSound (lineOf s) := by
  have hdesk : ∀ j, LineDeskSound s.directives j (lineDeskOf (junctionAt s j)) ↔
      (entriesOf s j true).length = (if (junctionAt s j).releaseQueued then 1 else 0)
        ∧ (entriesOf s j false).length ≤ 1
        ∧ (∀ d ∈ entriesOf s j false, d.sending = false →
            (junctionAt s j).outstanding.map Outstanding.tag = some d.tag)
        ∧ ((junctionAt s j).acceptDeadline.isSome = true →
            (junctionAt s j).outstanding.isSome = true ∧ entriesOf s j false = []) := fun j => by
    constructor
    · rintro ⟨hreleases, hothers, hwaiting, htimed⟩
      exact ⟨hreleases, hothers, hwaiting, fun h => (htimed h).imp_left fun h' => by simpa [lineDeskOf] using h'⟩
    · rintro ⟨hreleases, hothers, hwaiting, htimed⟩
      exact ⟨hreleases, hothers, hwaiting, fun h => (htimed h).imp_left fun h' => by simpa [lineDeskOf] using h'⟩
  constructor
  · rintro ⟨-, hsending, hidle, hdesks⟩
    exact ⟨⟨hsending, fun j => (hdesk j).mpr (hdesks j)⟩, fun h => hidle (by simpa [lineOf] using h)⟩
  · rintro ⟨⟨hsending, hdesks⟩, hidle⟩
    exact ⟨length_le_of_desks hdesks, hsending, fun h => hidle (by simp [lineOf, h]), fun j => (hdesk j).mp (hdesks j)⟩

/-! ### The moves of a line -/

/-- One desk of a line replaced. -/
def Line.setDesk (L : Line) (j : JunctionId) (d : LineDesk) : Line := { L with desk := Function.update L.desk j d }

/-- The queue of a line replaced. -/
def Line.setQueue (L : Line) (q : List Directive) : Line := { L with queue := q }

@[simp] theorem queue_setDesk (L : Line) (j : JunctionId) (d : LineDesk) : (L.setDesk j d).queue = L.queue := rfl
@[simp] theorem busy_setDesk (L : Line) (j : JunctionId) (d : LineDesk) : (L.setDesk j d).busy = L.busy := rfl
@[simp] theorem queue_setQueue (L : Line) (q : List Directive) : (L.setQueue q).queue = q := rfl
@[simp] theorem busy_setQueue (L : Line) (q : List Directive) : (L.setQueue q).busy = L.busy := rfl
@[simp] theorem desk_setDesk_same (L : Line) (j : JunctionId) (d : LineDesk) : (L.setDesk j d).desk j = d :=
  Function.update_self ..
theorem desk_setDesk_ne {j k : JunctionId} (h : k ≠ j) (L : Line) (d : LineDesk) : (L.setDesk j d).desk k = L.desk k :=
  Function.update_of_ne h ..
@[simp] theorem desk_setQueue (L : Line) (q : List Directive) : (L.setQueue q).desk = L.desk := rfl

/-- A change of one desk and of the queue keeps the line where the other junctions' sides stay. -/
theorem LineWaits.change {L : Line} {q : List Directive} {j : JunctionId} {d : LineDesk} (h : LineWaits L)
    (hsending : (q.filter Directive.sending).length = (L.queue.filter Directive.sending).length)
    (hothers : ∀ k, k ≠ j → ∀ b, sideOf q k b = sideOf L.queue k b) (hj : LineDeskSound q j d) :
    LineWaits ((L.setQueue q).setDesk j d) := by
  refine ⟨hsending.trans h.sending, fun k => ?_⟩
  by_cases hk : k = j
  · subst hk
    rw [desk_setDesk_same]
    exact hj
  · rw [desk_setDesk_ne hk]
    obtain ⟨hreleases, hothers', hwaiting, htimed⟩ := h.desks k
    exact ⟨by rw [queue_setDesk, queue_setQueue, hothers k hk]; exact hreleases, by rw [queue_setDesk, queue_setQueue, hothers k hk]; exact hothers',
      by rw [queue_setDesk, queue_setQueue, hothers k hk]; exact hwaiting, by rw [queue_setDesk, queue_setQueue, hothers k hk]; exact htimed⟩

/-- A change of one desk alone. -/
theorem LineSound.setDesk {L : Line} {j : JunctionId} {d : LineDesk} (h : LineSound L) (hj : LineDeskSound L.queue j d) :
    LineSound (L.setDesk j d) :=
  ⟨h.toLineWaits.change rfl (fun _ _ _ => rfl) hj, h.idle⟩

/-- No grant-or-trim entry of the junction is WAITING. -/
def NoneWaiting (q : List Directive) (j : JunctionId) : Prop := ∀ e ∈ sideOf q j false, e.sending = true

/-- The outstanding directive goes where it is not WAITING (R110 to R114). -/
theorem LineDeskSound.cleared {q : List Directive} {j : JunctionId} {d : LineDesk} (h : LineDeskSound q j d)
    (hnone : NoneWaiting q j) : LineDeskSound q j { d with tag := none, timed := false } :=
  ⟨h.releases, h.others, fun e he hs => absurd ((hnone e he).symm.trans hs) nofun, nofun⟩

/-- The WAITING entries of a junction whose kind meets a test leave the queue. -/
def dropped (q : List Directive) (j : JunctionId) (p : DirectiveKind → Bool) : List Directive :=
  q.filter fun d => !waitingEntry j p d

section

variable {q : List Directive} {j : JunctionId} {p : DirectiveKind → Bool}

theorem sending_dropped : (dropped q j p).filter Directive.sending = q.filter Directive.sending := by
  rw [dropped, List.filter_filter]
  refine List.filter_congr fun d _ => ?_
  cases hs : d.sending <;> simp [waitingEntry, hs]

theorem sideOf_dropped_of_ne {k : JunctionId} (hk : k ≠ j) (b : Bool) : sideOf (dropped q j p) k b = sideOf q k b := by
  rw [sideOf, dropped, List.filter_filter]
  refine List.filter_congr fun d _ => ?_
  by_cases hd : d.junction = k
  · simp [waitingEntry, hd, hk]
  · simp [hd]

theorem releases_dropped (hp : ∀ k, p k = true → isRelease k = false) : sideOf (dropped q j p) j true = sideOf q j true := by
  rw [sideOf, dropped, List.filter_filter]
  refine List.filter_congr fun d _ => ?_
  cases hr : isRelease d.kind with
  | false => simp
  | true =>
    have hnot : p d.kind = false := Bool.eq_false_iff.mpr fun h => absurd ((hp _ h).symm.trans hr) nofun
    simp [waitingEntry, hnot]

theorem sublist_dropped (b : Bool) : (sideOf (dropped q j p) j b).Sublist (sideOf q j b) :=
  List.Sublist.filter _ List.filter_sublist

theorem LineDeskSound.dropped {d : LineDesk} (h : LineDeskSound q j d) (hp : ∀ k, p k = true → isRelease k = false) :
    LineDeskSound (dropped q j p) j d := by
  obtain ⟨hreleases, hothers, hwaiting, htimed⟩ := h
  have hsub := sublist_dropped (q := q) (j := j) (p := p) false
  refine ⟨by rw [releases_dropped hp]; exact hreleases, hsub.length_le.trans hothers,
    fun e he => hwaiting e (hsub.subset he), fun ht => (htimed ht).imp_right fun hnil => ?_⟩
  exact List.sublist_nil.mp (hnil ▸ hsub)

/-- The WAITING entries of a junction that are not RELEASEs leave the queue, and what is outstanding goes with them (R19,
R112, R121, R134). -/
theorem LineSound.dropClear {L : Line} (h : LineSound L) (hp : ∀ k, p k = true → isRelease k = false)
    (hnone : NoneWaiting (Proofs.dropped L.queue j p) j) :
    LineSound ((L.setQueue (Proofs.dropped L.queue j p)).setDesk j { L.desk j with tag := none, timed := false }) := by
  refine ⟨h.toLineWaits.change (by rw [sending_dropped]) (fun k hk b => sideOf_dropped_of_ne hk b)
    (((h.desks j).dropped hp).cleared hnone), fun hb => ?_⟩
  change Proofs.dropped L.queue j p = []
  rw [h.idle hb]
  rfl

/-- Where a junction's one grant-or-trim entry was WAITING, none is left. -/
theorem noneWaiting_of_any {d : LineDesk} (h : LineDeskSound q j d) (hp : ∀ k, p k = true → isRelease k = false)
    (hany : q.any (waitingEntry j p) = true) : NoneWaiting (dropped q j p) j := by
  obtain ⟨e, he, hwaits⟩ := List.any_eq_true.mp hany
  obtain ⟨⟨hj, hs⟩, hpe⟩ : (e.junction = j ∧ e.sending = false) ∧ p e.kind = true := by simpa [waitingEntry] using hwaits
  have hside : e ∈ sideOf q j false := mem_sideOf.mpr ⟨he, hj, hp _ hpe⟩
  intro x hx
  obtain ⟨hx', hxj, hxr⟩ := mem_sideOf.mp hx
  obtain ⟨hxq, hkept⟩ := List.mem_filter.mp hx'
  have hxside : x ∈ sideOf q j false := mem_sideOf.mpr ⟨hxq, hxj, hxr⟩
  obtain ⟨y, hy⟩ := List.length_eq_one_iff.mp (le_antisymm h.others (List.length_pos_of_mem hside))
  rw [hy] at hside hxside
  obtain rfl := List.mem_singleton.mp hside
  obtain rfl := List.mem_singleton.mp hxside
  rw [hwaits] at hkept
  exact absurd hkept nofun

/-- Where every WAITING grant-or-trim entry meets the test, none is left. -/
theorem noneWaiting_of_all (hp : ∀ k, isRelease k = false → p k = true) : NoneWaiting (dropped q j p) j := by
  intro e he
  obtain ⟨he', hj, hr⟩ := mem_sideOf.mp he
  obtain ⟨-, hkept⟩ := List.mem_filter.mp he'
  by_contra hs
  rw [Bool.not_eq_true] at hs
  simp [waitingEntry, hj, hs, hp _ hr] at hkept

theorem NoneWaiting.dropped (h : NoneWaiting q j) : NoneWaiting (dropped q j p) j :=
  fun e he => h e ((sublist_dropped false).subset he)

end

/-! ### The transmitter's choice (R157) -/

/-- The entry the transmitter chooses waits. -/
theorem chosenEntry_spec {q : List Directive} {i : Nat} (h : chosenEntry q = some i) :
    ∃ d, q[i]? = some d ∧ d.sending = false := by
  have hof : ∀ (f : Directive → Bool) (k : Nat), (∀ d, f d = true → d.sending = false) → q.findIdx? f = some k →
      ∃ d, q[k]? = some d ∧ d.sending = false := fun f k hf hk => by
    obtain ⟨hlt, hfk, -⟩ := List.findIdx?_eq_some_iff_getElem.mp hk
    exact ⟨q[k], List.getElem?_eq_getElem hlt, hf _ hfk⟩
  unfold chosenEntry at h
  split at h
  · next k hk =>
    obtain rfl := Option.some.inj h
    exact hof _ k (fun d hd => (by simpa using hd : d.sending = false ∧ _).1) hk
  · exact hof _ i (fun d hd => by simpa using hd) h

theorem chosenEntry_eq_none {q : List Directive} (h : chosenEntry q = none) : ∀ d ∈ q, d.sending = true := by
  unfold chosenEntry at h
  split at h
  · exact absurd h nofun
  · intro d hd
    simpa using List.findIdx?_eq_none_iff.mp h d hd

/-- One WAITING entry of a queue becomes SENDING. -/
theorem sideOf_set {q : List Directive} {i : Nat} {d e : Directive} (hd : q[i]? = some d) (hj : e.junction = d.junction)
    (hr : isRelease e.kind = isRelease d.kind) (k : JunctionId) (b : Bool) :
    (sideOf (q.set i e) k b).length = (sideOf q k b).length
      ∧ ∀ x ∈ sideOf (q.set i e) k b, x = e ∨ x ∈ sideOf q k b := by
  constructor
  · rw [sideOf, sideOf, ← List.countP_eq_length_filter, ← List.countP_eq_length_filter]
    induction q generalizing i with
    | nil => rfl
    | cons y q ih =>
      cases i with
      | zero =>
        obtain rfl := Option.some.inj hd
        simp [List.countP_cons, hj, hr]
      | succ i => simp only [List.set_cons_succ, List.countP_cons, ih hd]
  · intro x hx
    obtain ⟨hx', hxj, hxr⟩ := mem_sideOf.mp hx
    obtain hx' | rfl := List.mem_or_eq_of_mem_set hx'
    · exact .inr (mem_sideOf.mpr ⟨hx', hxj, hxr⟩)
    · exact .inl rfl

theorem sending_set {q : List Directive} {i : Nat} {d e : Directive} (hd : q[i]? = some d) (hs : d.sending = false)
    (he : e.sending = true) :
    ((q.set i e).filter Directive.sending).length = (q.filter Directive.sending).length + 1 := by
  rw [← List.countP_eq_length_filter, ← List.countP_eq_length_filter]
  induction q generalizing i with
  | nil => exact absurd hd nofun
  | cons y q ih =>
    cases i with
    | zero =>
      obtain rfl := Option.some.inj hd
      simp [hs, he]
    | succ i => simp only [List.set_cons_succ, List.countP_cons, ih hd]; omega

theorem transmitNext_of_busy {now : Time} {s : State} (h : s.transmitter.isSome = true) : transmitNext now s = s := by
  obtain ⟨x, hx⟩ := Option.isSome_iff_exists.mp h
  unfold transmitNext
  rw [hx]

theorem transmitNext_of_none {now : Time} {s : State} (h : chosenEntry s.directives = none) : transmitNext now s = s := by
  unfold transmitNext
  rw [h]
  cases s.transmitter <;> rfl

theorem transmitNext_of_idle {now : Time} {s : State} {i : Nat} {d : Directive} (hidle : s.transmitter = none)
    (hi : chosenEntry s.directives = some i) (hd : s.directives[i]? = some d) :
    transmitNext now s = { s with
      directives := s.directives.set i { d with sending := true }
      transmitter := some { frame := directiveFrame d, since := now } } := by
  unfold transmitNext
  rw [hidle, hi]
  dsimp only
  rw [hd]

/-- The transmitter's choice leaves nothing waiting while it is IDLE. -/
theorem lineSound_transmitNext (now : Time) {s : State} (h : LineWaits (lineOf s)) : LineSound (lineOf (transmitNext now s)) := by
  cases htx : s.transmitter with
  | some x =>
    have hbusy : s.transmitter.isSome = true := by rw [htx]; rfl
    rw [transmitNext_of_busy hbusy]
    exact ⟨h, fun hb => absurd (hbusy.symm.trans hb) nofun⟩
  | none =>
    have hcount : (s.directives.filter Directive.sending).length = 0 := by
      have := h.sending
      rwa [show (lineOf s).busy = false by simp [lineOf, htx]] at this
    cases hi : chosenEntry s.directives with
    | none =>
      rw [transmitNext_of_none hi]
      refine ⟨h, fun _ => List.eq_nil_iff_forall_not_mem.mpr fun d hd => ?_⟩
      have hmem : d ∈ s.directives.filter Directive.sending := List.mem_filter.mpr ⟨hd, chosenEntry_eq_none hi d hd⟩
      rw [List.eq_nil_of_length_eq_zero hcount] at hmem
      exact absurd hmem List.not_mem_nil
    | some i =>
      obtain ⟨d, hd, hs⟩ := chosenEntry_spec hi
      rw [transmitNext_of_idle htx hi hd]
      refine ⟨⟨?_, fun k => ?_⟩, nofun⟩
      · change ((s.directives.set i { d with sending := true }).filter Directive.sending).length = 1
        rw [sending_set hd hs rfl, hcount]
      · obtain ⟨hreleases, hothers, hwaiting, htimed⟩ := h.desks k
        have hside := sideOf_set (e := { d with sending := true }) hd rfl rfl k
        change LineDeskSound (s.directives.set i { d with sending := true }) k (lineDeskOf (junctionAt s k))
        refine ⟨(hside true).1.trans hreleases, (hside false).1.le.trans hothers, fun e he hes => ?_,
          fun ht => (htimed ht).imp_right fun hnil => List.eq_nil_of_length_eq_zero ((hside false).1.trans ?_)⟩
        · obtain rfl | he := (hside false).2 e he
          · exact absurd hes nofun
          · exact hwaiting e he hes
        · exact (congrArg List.length hnil).trans rfl

end Sys2Proof.Proofs

/-! What the operations keep of the line: offers, releases, answers and the ends of a grant. -/

namespace Sys2Proof.Proofs

open Sys2Proof.Machine Sys2Proof.Safety Sys2Proof.Laws

/-! ### Operations that leave the line as it is -/

theorem lineOf_congr {s t : State} (hdirectives : t.directives = s.directives) (htransmitter : t.transmitter = s.transmitter)
    (hjunctions : t.junctions = s.junctions) : lineOf t = lineOf s := by
  simp only [lineOf, hdirectives, htransmitter, junctionAt_congr hjunctions]

@[simp] theorem lineOf_raise (c : Category) (s : State) : lineOf (raise c s) = lineOf s := lineOf_congr rfl rfl rfl

@[simp] theorem lineOf_raiseIf (b : Bool) (c : Category) (s : State) : lineOf (raiseIf b c s) = lineOf s := by
  cases b
  · rfl
  · exact lineOf_raise c s

@[simp] theorem lineOf_enqueue (i : SlotId) (s : State) : lineOf (enqueue i s) = lineOf s :=
  lineOf_congr (by simp) (by simp) (by simp)

@[simp] theorem lineOf_dequeue (i : SlotId) (s : State) : lineOf (dequeue i s) = lineOf s := lineOf_congr rfl rfl rfl

@[simp] theorem lineOf_enqueueSlots (p : SlotId → Record → Bool) (s : State) : lineOf (enqueueSlots p s) = lineOf s :=
  lineOf_congr (by simp) (by simp) (by simp)

@[simp] theorem lineOf_enqueueWhere (p : Record → Bool) (s : State) : lineOf (enqueueWhere p s) = lineOf s :=
  lineOf_congr (by simp) (by simp) (by simp)

@[simp] theorem lineOf_onSlot (i : SlotId) (f : Slot → Slot) (s : State) : lineOf (onSlot i f s) = lineOf s :=
  lineOf_congr rfl rfl rfl

@[simp] theorem lineOf_onRecord (i : SlotId) (f : Record → Record) (s : State) : lineOf (onRecord i f s) = lineOf s :=
  lineOf_congr rfl rfl rfl

@[simp] theorem lineOf_onRecordsWhere (p : Record → Bool) (f : Record → Record) (s : State) :
    lineOf (onRecordsWhere p f s) = lineOf s := lineOf_congr rfl rfl rfl

@[simp] theorem lineOf_setSegment (k : SegmentId) (g : Option Segment) (s : State) : lineOf (setSegment k g s) = lineOf s :=
  lineOf_congr rfl rfl rfl

@[simp] theorem lineOf_setAssembler (link : Link) (a : Assembler) (s : State) : lineOf (setAssembler link a s) = lineOf s := by
  cases link <;> rfl

theorem lineOf_onJunction {s : State} {j : JunctionId} {f : Junction → Junction} {d : LineDesk}
    (h : lineDeskOf (f (junctionAt s j)) = d) : lineOf (onJunction j f s) = (lineOf s).setDesk j d := by
  refine congrArg (Line.mk s.directives s.transmitter.isSome) (funext fun k => ?_)
  change lineDeskOf (junctionAt (onJunction j f s) k) = Function.update (lineOf s).desk j d k
  by_cases hk : k = j
  · subst hk; rw [junctionAt_onJunction_same, Function.update_self, h]
  · rw [junctionAt_onJunction_ne (Ne.symm hk), Function.update_of_ne hk]; rfl

/-- A change of a context outside its line desk leaves the line. -/
theorem lineOf_onJunction_of_desk {s : State} {j : JunctionId} {f : Junction → Junction}
    (h : lineDeskOf (f (junctionAt s j)) = lineDeskOf (junctionAt s j)) : lineOf (onJunction j f s) = lineOf s := by
  rw [lineOf_onJunction h]
  exact congrArg (Line.mk s.directives s.transmitter.isSome) (Function.update_eq_self j (lineOf s).desk)

@[simp] theorem lineOf_onOrder (j : JunctionId) (f : List SlotId → List SlotId) (s : State) :
    lineOf (onOrder j f s) = lineOf s := lineOf_onJunction_of_desk rfl

@[simp] theorem lineOf_insertCandidate (j : JunctionId) (i : SlotId) (s : State) :
    lineOf (insertCandidate j i s) = lineOf s := lineOf_onOrder ..

@[simp] theorem lineOf_removeCandidate (j : JunctionId) (i : SlotId) (s : State) :
    lineOf (removeCandidate j i s) = lineOf s := lineOf_onOrder ..

@[simp] theorem lineOf_moveCandidate (j : JunctionId) (i : SlotId) (s : State) :
    lineOf (moveCandidate j i s) = lineOf s := lineOf_onOrder ..

@[simp] theorem lineOf_clearGrant (j : JunctionId) (s : State) : lineOf (clearGrant j s) = lineOf s :=
  lineOf_onJunction_of_desk rfl

@[simp] theorem lineOf_walkOrder (now : Time) (j : JunctionId) (l : List SlotId) (s : State) :
    lineOf (walkOrder now j l s).1 = lineOf s := by
  induction l generalizing s with
  | nil => rfl
  | cons i l ih =>
    unfold walkOrder
    split
    · exact ih s
    · split
      · exact ih s
      · split
        · rw [ih, lineOf_enqueue, lineOf_onRecord]
        · rfl

@[simp] theorem lineOf_returnHolder (j : JunctionId) (i : SlotId) (s : State) : lineOf (returnHolder j i s) = lineOf s := by
  unfold returnHolder
  split
  · rfl
  · split <;> simp

@[simp] theorem lineOf_settleState (i : SlotId) (r : Record) (f : Reads) (e : EvalResult) (s : State) :
    lineOf (settleState i r f e s) = lineOf s := by
  have hfollow : ∀ (b : Record) (st : RecordState) (v : Nat) (u : State), lineOf (followOrder i b st v u) = lineOf u := by
    intro b st v u
    unfold followOrder
    split
    · split <;> simp
    · simp
    · simp
    · rfl
  unfold settleState
  dsimp only
  split <;> simp [hfollow]

theorem lineOf_dropWaiting (j : JunctionId) (p : DirectiveKind → Bool) (s : State) :
    lineOf (dropWaiting j p s) = (lineOf s).setQueue (dropped s.directives j p) := rfl

theorem lineOf_clearOutstanding (j : JunctionId) (s : State) : lineOf (clearOutstanding j s)
    = (lineOf s).setDesk j { lineDeskOf (junctionAt s j) with tag := none, timed := false } := lineOf_onJunction rfl

/-! ### Entries that join the queue (R108, R118, R130, R156) -/

/-- An entry that joins its junction's side of the queue, WAITING. -/
theorem lineWaits_append {L : Line} {d : Directive} {x : LineDesk} (h : LineWaits L) (hs : d.sending = false)
    (hx : LineDeskSound (L.queue ++ [d]) d.junction x) :
    LineWaits ((L.setQueue (L.queue ++ [d])).setDesk d.junction x) := by
  refine h.change ?_ (fun k hk b => ?_) hx
  · rw [List.filter_append]
    simp [hs]
  · rw [sideOf, List.filter_append]
    simp [sideOf, Ne.symm hk]

theorem lineSound_queueDirective (now : Time) {j : JunctionId} {k : DirectiveKind} {tag : Byte} {s : State}
    (h : LineWaits (lineOf s))
    (hx : LineDeskSound (s.directives ++ [{ junction := j, kind := k, tag := tag, sending := false }]) j
      (lineDeskOf (junctionAt s j))) : LineSound (lineOf (queueDirective now j k tag s)) := by
  refine lineSound_transmitNext now ?_
  have happend := lineWaits_append (d := { junction := j, kind := k, tag := tag, sending := false }) h rfl hx
  have hsame : ((lineOf s).setQueue (s.directives ++ [{ junction := j, kind := k, tag := tag, sending := false }])).setDesk j
      (lineDeskOf (junctionAt s j))
      = lineOf { s with directives := s.directives ++ [{ junction := j, kind := k, tag := tag, sending := false }] } :=
    congrArg (Line.mk _ _) (Function.update_eq_self j (lineOf s).desk)
  exact hsame ▸ happend

/-- A junction that may be directed has no grant-or-trim entry queued (R106, R155). -/
theorem others_eq_nil_of_canDirect {s : State} {j : JunctionId} (h : LineWaits (lineOf s)) (hcan : canDirect s j = true) :
    sideOf s.directives j false = [] := by
  obtain ⟨-, hout, hnone⟩ := (canDirect_iff s j).mp hcan
  refine List.eq_nil_iff_forall_not_mem.mpr fun e he => ?_
  obtain ⟨heq, hej, her⟩ := mem_sideOf.mp he
  cases hs : e.sending with
  | false =>
    have htag : (junctionAt s j).outstanding.map Outstanding.tag = some e.tag := (h.desks j).waiting e he hs
    rw [hout] at htag
    exact absurd htag nofun
  | true =>
    have hk : e.kind = .release := hnone e heq hej hs
    rw [hk] at her
    exact absurd her nofun

/-- A grant-or-trim directive is queued for a junction that may be directed, outstanding under its tag (R108, R130). -/
theorem lineSound_directed (now : Time) {j : JunctionId} {k : DirectiveKind} {tag : Byte} {s u : State}
    (h : LineSound (lineOf s)) (hcan : canDirect s j = true) (hk : isRelease k = false)
    (hu : lineOf u = (lineOf s).setDesk j { lineDeskOf (junctionAt s j) with tag := some tag, timed := false }) :
    LineSound (lineOf (queueDirective now j k tag u)) := by
  have hnil := others_eq_nil_of_canDirect h.toLineWaits hcan
  have hreleases : (sideOf s.directives j true).length = if (lineDeskOf (junctionAt s j)).releaseQueued then 1 else 0 :=
    (h.desks j).releases
  have hdesk : LineDeskSound s.directives j { lineDeskOf (junctionAt s j) with tag := some tag, timed := false } :=
    ⟨hreleases, by rw [hnil]; exact Nat.zero_le _, by rw [hnil]; exact nofun, nofun⟩
  have hqueue : u.directives = s.directives := congrArg Line.queue hu
  have hdesku : lineDeskOf (junctionAt u j) = { lineDeskOf (junctionAt s j) with tag := some tag, timed := false } := by
    have := congrFun (congrArg Line.desk hu) j
    rwa [desk_setDesk_same] at this
  refine lineSound_queueDirective now (hu ▸ (h.setDesk hdesk).toLineWaits) ?_
  have hside : ∀ b, sideOf (s.directives ++ [{ junction := j, kind := k, tag := tag, sending := false }]) j b
      = sideOf s.directives j b ++ if b then [] else [{ junction := j, kind := k, tag := tag, sending := false }] := by
    intro b
    cases b <;> simp [sideOf, hk]
  rw [hqueue, hdesku]
  refine ⟨?_, ?_, fun e he _ => ?_, nofun⟩
  · rw [hside]
    simpa using hreleases
  · rw [hside, hnil]
    exact Nat.le_refl 1
  · rw [hside, hnil] at he
    obtain rfl := List.mem_singleton.mp he
    rfl

theorem isRelease_offerDirective (o : OfferTerms) : isRelease (offerDirective o) = false := by
  unfold offerDirective
  cases o.kind <;> rfl

theorem lineSound_makeOffer (now : Time) {j : JunctionId} (i : SlotId) (o : OfferTerms) {s : State}
    (h : LineSound (lineOf s)) (hcan : canDirect s j = true) : LineSound (lineOf (makeOffer now j i o s)) := by
  unfold makeOffer
  refine lineSound_directed now h hcan (isRelease_offerDirective o) ?_
  rw [lineOf_onJunction rfl, lineOf_onRecord, lineOf_removeCandidate]
  refine congrArg ((lineOf s).setDesk j) ?_
  simp [lineDeskOf, removeCandidate, onOrder]

theorem canDirect_congr {s t : State} {j : JunctionId} (hd : t.directives = s.directives)
    (hj : junctionAt t j = junctionAt s j) : canDirect t j = canDirect s j := by
  simp only [canDirect, sendingDirective, hd, hj]

theorem lineSound_issueCheck (now : Time) (j : JunctionId) {s : State} (h : LineSound (lineOf s)) :
    LineSound (lineOf (issueCheck now j s)) := by
  unfold issueCheck
  split
  · next hmay =>
    have hwalk := lineOf_walkOrder now j (junctionAt s j).candidates s
    have hcan : canDirect s j = true := by
      obtain ⟨-, -, hdirect⟩ := (mayOffer_iff s j).mp hmay
      exact (canDirect_iff s j).mpr hdirect
    dsimp only
    split
    · exact hwalk ▸ h
    · split
      · refine lineSound_makeOffer now _ _ (hwalk ▸ h) ?_
        rw [canDirect_congr (congrArg Line.queue hwalk :) (junctionAt_walkOrder ..)]
        exact hcan
      · exact hwalk ▸ h
  · exact h

/-- The RELEASEs of a queue with their tags changed. -/
theorem lineDeskSound_retagged {q : List Directive} {k : JunctionId} {d : LineDesk} {f : Directive → Directive}
    (h : LineDeskSound q k d)
    (hf : ∀ e, (f e).junction = e.junction ∧ (f e).kind = e.kind ∧ (f e).sending = e.sending
      ∧ (isRelease e.kind = false → f e = e)) : LineDeskSound (q.map f) k d := by
  have hside : ∀ b, sideOf (q.map f) k b = (sideOf q k b).map f := fun b => by
    rw [sideOf, List.filter_map]
    refine congrArg (List.map f) (List.filter_congr fun e _ => ?_)
    simp only [Function.comp, (hf e).1, (hf e).2.1]
  have hfalse : sideOf (q.map f) k false = sideOf q k false := by
    rw [hside]
    refine (List.map_congr_left fun e he => ?_).trans (List.map_id _)
    exact (hf e).2.2.2 (mem_sideOf.mp he).2.2
  exact ⟨by rw [hside, List.length_map]; exact h.releases, by rw [hfalse]; exact h.others, by rw [hfalse]; exact h.waiting,
    by rw [hfalse]; exact h.timed⟩

theorem lineSound_queueRelease (now : Time) (j : JunctionId) (tag : Byte) {s : State} (h : LineSound (lineOf s)) :
    LineSound (lineOf (queueRelease now j tag s)) := by
  unfold queueRelease
  split
  · have hf : ∀ e : Directive, let e' := if e.junction = j ∧ isRelease e.kind = true then { e with tag := tag } else e
        e'.junction = e.junction ∧ e'.kind = e.kind ∧ e'.sending = e.sending ∧ (isRelease e.kind = false → e' = e) := by
      intro e
      dsimp only
      split
      · next hr => exact ⟨rfl, rfl, rfl, fun hn => absurd (hr.2.symm.trans hn) nofun⟩
      · exact ⟨rfl, rfl, rfl, fun _ => rfl⟩
    refine ⟨⟨?_, fun k => lineDeskSound_retagged (h.desks k) hf⟩, fun hb => ?_⟩
    · refine Eq.trans ?_ h.sending
      change ((s.directives.map _).filter Directive.sending).length = (s.directives.filter Directive.sending).length
      rw [List.filter_map, List.length_map]
      refine congrArg List.length (List.filter_congr fun e _ => ?_)
      exact (hf e).2.2.1
    · change s.directives.map _ = []
      rw [show s.directives = [] from h.idle hb]
      rfl
  · next hflag =>
    have hflag : (junctionAt s j).releaseQueued = false := Bool.eq_false_iff.mpr hflag
    obtain ⟨hreleases, hothers, hwaiting, htimed⟩ := h.desks j
    have hzero : (sideOf s.directives j true).length = 0 := hreleases.trans (by simp [lineOf, lineDeskOf, hflag])
    refine lineSound_transmitNext now ?_
    have happend := lineWaits_append (d := { junction := j, kind := .release, tag := tag, sending := false })
      (x := { lineDeskOf (junctionAt s j) with releaseQueued := true }) h.toLineWaits rfl ?_
    · have hline : lineOf (onJunction j (fun c => { c with releaseQueued := true }) s)
          = (lineOf s).setDesk j { lineDeskOf (junctionAt s j) with releaseQueued := true } := lineOf_onJunction rfl
      have hsame : lineOf { onJunction j (fun c => { c with releaseQueued := true }) s with
          directives := s.directives ++ [{ junction := j, kind := .release, tag := tag, sending := false }] }
          = ((lineOf s).setQueue (s.directives ++ [{ junction := j, kind := .release, tag := tag, sending := false }])).setDesk j
            { lineDeskOf (junctionAt s j) with releaseQueued := true } :=
        congrArg (Line.mk _ _) (congrArg Line.desk hline)
      exact hsame ▸ happend
    · have hside : ∀ b, sideOf ((lineOf s).queue ++ [{ junction := j, kind := .release, tag := tag, sending := false }]) j b
          = sideOf s.directives j b ++ if b then [{ junction := j, kind := .release, tag := tag, sending := false }] else [] := by
        intro b
        cases b <;> simp [sideOf, isRelease, lineOf]
      have hfalse : sideOf ((lineOf s).queue ++ [{ junction := j, kind := .release, tag := tag, sending := false }]) j false
          = sideOf s.directives j false := by rw [hside]; simp
      exact ⟨by rw [hside, List.length_append, hzero]; rfl, by rw [hfalse]; exact hothers, by rw [hfalse]; exact hwaiting,
        by rw [hfalse]; exact htimed⟩

theorem noneWaiting_transmitNext (now : Time) {j : JunctionId} {s : State} (h : NoneWaiting s.directives j) :
    NoneWaiting (transmitNext now s).directives j := by
  cases htx : s.transmitter with
  | some x => rwa [transmitNext_of_busy (by rw [htx]; rfl)]
  | none =>
    cases hi : chosenEntry s.directives with
    | none => rwa [transmitNext_of_none hi]
    | some i =>
      obtain ⟨d, hd, -⟩ := chosenEntry_spec hi
      rw [transmitNext_of_idle htx hi hd]
      intro e he
      obtain rfl | he := (sideOf_set (e := { d with sending := true }) hd rfl rfl j false).2 e he
      · rfl
      · exact h e he

/-- A RELEASE queued makes no grant-or-trim entry wait. -/
theorem noneWaiting_queueRelease (now : Time) (j : JunctionId) (tag : Byte) {s : State} (h : NoneWaiting s.directives j) :
    NoneWaiting (queueRelease now j tag s).directives j := by
  unfold queueRelease
  split
  · intro e he
    obtain ⟨heq, hej, her⟩ := mem_sideOf.mp he
    obtain ⟨d, hd, rfl⟩ := List.mem_map.mp heq
    by_cases hr : d.junction = j ∧ isRelease d.kind = true
    · rw [if_pos hr] at her
      exact absurd (hr.2.symm.trans her) nofun
    · rw [if_neg hr] at her hej ⊢
      exact h d (mem_sideOf.mpr ⟨hd, hej, her⟩)
  · refine noneWaiting_transmitNext now fun e he => ?_
    obtain ⟨heq, hej, her⟩ := mem_sideOf.mp he
    obtain heq | heq := List.mem_append.mp heq
    · exact h e (mem_sideOf.mpr ⟨heq, hej, her⟩)
    · obtain rfl := List.mem_singleton.mp heq
      exact absurd her nofun

theorem lineSound_releaseGrant (now : Time) (j : JunctionId) (g : Grant) {s : State} (h : LineSound (lineOf s)) :
    LineSound (lineOf (releaseGrant now j g s)) := by
  unfold releaseGrant
  split
  · rw [lineOf_onJunction_of_desk rfl]
    exact lineSound_queueRelease now j _ h
  · exact h

/-! ### Directives withdrawn, and grants ended (R19, R112 to R121) -/

theorem lineSound_withdraw (j : JunctionId) {p : DirectiveKind → Bool} (hp : ∀ k, p k = true → isRelease k = false)
    {s : State} (h : LineSound (lineOf s)) : LineSound (lineOf (withdraw j p s)) := by
  unfold withdraw
  split
  · next hany =>
    rw [lineOf_onJunction rfl, lineOf_dropWaiting]
    exact h.dropClear hp (noneWaiting_of_any (h.desks j) hp hany)
  · exact h

theorem not_release_of_isGrantKind (k : DirectiveKind) (h : isGrantKind k = true) : isRelease k = false := by
  cases k with
  | trim | release => exact absurd h nofun
  | extend | advance => rfl

theorem lineSound_endAccepted (now : Time) (j : JunctionId) (g : Grant) (release : Bool) (served : Option Half)
    {leave : State → State} (hleave : ∀ u, lineOf (leave u) = lineOf u) {s : State} (h : LineSound (lineOf s)) :
    LineSound (lineOf (endAccepted now j g release served leave s)) := by
  have hreleased : LineSound (lineOf (if release then releaseGrant now j g s else s)) := by
    split
    · exact lineSound_releaseGrant now j g h
    · exact h
  unfold endAccepted
  dsimp only
  rw [lineOf_clearGrant, lineOf_enqueueWhere, hleave]
  cases served with
  | none => rw [lineOf_onJunction_of_desk (by rfl)]; exact hreleased
  | some v => rw [lineOf_onJunction_of_desk (by rfl), lineOf_onJunction_of_desk (by rfl)]; exact hreleased

theorem lineSound_handBack {j : JunctionId} (g : Grant) (c : Category) {s : State} (h : LineSound (lineOf s))
    (hnone : NoneWaiting s.directives j) : LineSound (lineOf (handBack j g c s)) := by
  unfold handBack
  rw [lineOf_raise, lineOf_clearOutstanding, lineOf_enqueue, lineOf_returnHolder, lineOf_clearGrant, lineOf_dropWaiting]
  have hdesk : lineDeskOf (junctionAt (enqueue g.slot (returnHolder j g.slot (clearGrant j (dropWaiting j isGrantKind s)))) j)
      = lineDeskOf (junctionAt s j) := by
    have hline : lineOf (enqueue g.slot (returnHolder j g.slot (clearGrant j (dropWaiting j isGrantKind s))))
        = lineOf (dropWaiting j isGrantKind s) := by simp
    exact congrFun (congrArg Line.desk hline) j
  rw [hdesk]
  exact h.dropClear not_release_of_isGrantKind hnone.dropped

theorem lineSound_clearOutstanding {j : JunctionId} {s : State} (h : LineSound (lineOf s))
    (hnone : NoneWaiting s.directives j) : LineSound (lineOf (clearOutstanding j s)) := by
  rw [lineOf_clearOutstanding]
  exact h.setDesk ((h.desks j).cleared hnone)

theorem lineSound_retire (now : Time) (i : SlotId) (o : RetireOutcome) {s : State} (h : LineSound (lineOf s)) :
    LineSound (lineOf (retire now i o s)) := by
  unfold retire
  split
  · exact h
  · split
    · refine lineSound_issueCheck now _ ?_
      simpa using h
    · refine lineSound_issueCheck now _ ?_
      rw [lineOf_onSlot, lineOf_dequeue]
      unfold holderRetired
      split
      · exact h
      · split
        · exact lineSound_endAccepted now _ _ true _ (fun _ => rfl) h
        · rw [endOffered, lineOf_clearGrant]
          exact lineSound_withdraw _ not_release_of_isGrantKind h
    · simpa using h

theorem lineSound_retireKey (now : Time) (v : Half) (b : Byte) (o : RetireOutcome) {s : State} (h : LineSound (lineOf s)) :
    LineSound (lineOf (retireKey now v b o s)) := by
  unfold retireKey
  split
  · exact lineSound_retire now _ o h
  · exact h

theorem lineSound_goDark (now : Time) (j : JunctionId) (reason : DarkReason) {s : State} (h : LineSound (lineOf s)) :
    LineSound (lineOf (goDark now j reason s)) := by
  unfold goDark
  rw [lineOf_onRecordsWhere, lineOf_dropWaiting, lineOf_raise, lineOf_onJunction rfl]
  have hp : ∀ k, (!isRelease k) = true → isRelease k = false := fun k hk => by simpa using hk
  exact h.dropClear hp (noneWaiting_of_all fun k hk => by simp [hk])

/-! ### Answers (R110 to R114, R131, R132) -/

/-- No grant-or-trim entry of a junction is WAITING under the tag that answers its outstanding directive. -/
theorem noneWaiting_of_answered {s : State} {j : JunctionId} {tag : Byte} (h : LineSound (lineOf s))
    (hmatch : matchAnswer s j tag ≠ .other)
    (hunsent : ∀ d ∈ s.directives, d.junction = j → d.tag = tag → isRelease d.kind = false → d.sending = true) :
    NoneWaiting s.directives j := by
  intro e he
  obtain ⟨heq, hej, her⟩ := mem_sideOf.mp he
  by_contra hs
  have htag : (junctionAt s j).outstanding.map Outstanding.tag = some e.tag :=
    (h.desks j).waiting e he (Bool.eq_false_iff.mpr hs)
  obtain ⟨o, ho, hotag⟩ := outstanding_of_matchAnswer hmatch
  rw [ho, Option.map_some, Option.some.injEq] at htag
  exact hs (hunsent e heq hej (htag.symm.trans hotag) her)

section

variable {s : State} {j : JunctionId} {tag : Byte} (h : LineSound (lineOf s))
  (hunsent : ∀ d ∈ s.directives, d.junction = j → d.tag = tag → isRelease d.kind = false → d.sending = true)

include h hunsent

theorem lineSound_acceptAnswer (now : Time) : LineSound (lineOf (acceptAnswer now j tag s)) := by
  have hnone : matchAnswer s j tag ≠ .other → NoneWaiting s.directives j := fun hm => noneWaiting_of_answered h hm hunsent
  unfold acceptAnswer
  split
  · next n hm =>
    have hline : lineOf (onJunction j (adjustBy n) s) = lineOf s := lineOf_onJunction_of_desk rfl
    exact lineSound_issueCheck now j (lineSound_clearOutstanding (hline ▸ h) (hnone (by rw [hm]; exact nofun)))
  · next g hm =>
    refine lineSound_issueCheck now j (lineSound_clearOutstanding ?_ ?_)
    · rw [lineOf_enqueueSlots, lineOf_onJunction_of_desk rfl]
      exact h
    · simpa using hnone (by rw [hm]; exact nofun)
  · next hm =>
    have hreleased := lineSound_queueRelease now j tag h
    refine lineSound_issueCheck now j ?_
    rw [lineOf_raise]
    refine lineSound_clearOutstanding hreleased ?_
    exact noneWaiting_queueRelease now j tag (hnone (by rw [hm]; exact nofun))
  · rw [lineOf_raise]
    split
    · exact h
    · exact lineSound_queueRelease now j tag h

theorem lineSound_declineAnswer (now : Time) : LineSound (lineOf (declineAnswer now j tag s)) := by
  have hnone : matchAnswer s j tag ≠ .other → NoneWaiting s.directives j := fun hm => noneWaiting_of_answered h hm hunsent
  unfold declineAnswer
  split
  · next hm => exact lineSound_issueCheck now j (lineSound_clearOutstanding h (hnone (by rw [hm]; exact nofun)))
  · next hm => exact lineSound_issueCheck now j (lineSound_handBack _ _ h (hnone (by rw [hm]; exact nofun)))
  · next hm =>
    refine lineSound_issueCheck now j ?_
    rw [lineOf_raise]
    exact lineSound_clearOutstanding h (hnone (by rw [hm]; exact nofun))
  · rw [lineOf_raise]
    exact h

end

/-- The accept deadline of a junction is present only where its directive has been sent. -/
theorem lineSound_answerTimeout (now : Time) {j : JunctionId} {s : State} (h : LineSound (lineOf s))
    (hdeadline : (junctionAt s j).acceptDeadline.isSome = true) : LineSound (lineOf (answerTimeout now j s)) := by
  have hnone : NoneWaiting s.directives j := fun e he => by
    have hnil : sideOf s.directives j false = [] := ((h.desks j).timed hdeadline).2
    rw [hnil] at he
    exact absurd he List.not_mem_nil
  unfold answerTimeout
  split
  · exact lineSound_clearOutstanding h hnone
  · split
    · exact lineSound_issueCheck now j (lineSound_handBack _ _ h hnone)
    · refine lineSound_issueCheck now j ?_
      rw [lineOf_raise]
      exact lineSound_clearOutstanding h hnone

end Sys2Proof.Proofs

/-! The directive queue keeps to its bounds through every step (O10). -/

namespace Sys2Proof.Proofs

open Sys2Proof.Machine Sys2Proof.Safety Sys2Proof.Laws

/-! ### Evaluations and records -/

theorem lineSound_storeResult (now : Time) (i : SlotId) (r : Record) (f : Reads) (e : EvalResult) {s : State}
    (h : LineSound (lineOf s)) : LineSound (lineOf (storeResult now i r f e s)) := by
  have hstored : LineSound (lineOf (onRecord i (stored e) s)) := by rw [lineOf_onRecord]; exact h
  unfold storeResult
  dsimp only
  split
  · split
    · split
      · exact lineSound_issueCheck now _ (lineSound_endAccepted now _ _ true none (fun _ => by simp) hstored)
      · exact hstored
    · exact hstored
  · split
    · refine lineSound_issueCheck now _ ?_
      rw [lineOf_settleState]
      exact hstored
    · rw [lineOf_settleState]
      exact hstored

theorem lineSound_completeEvaluation (now : Time) {s : State} (h : LineSound (lineOf s)) :
    LineSound (lineOf (completeEvaluation now s)) := by
  unfold completeEvaluation
  split
  · exact h
  · next f _ =>
    have hidle : LineSound (lineOf { s with flight := none }) := h
    dsimp only
    split
    · exact hidle
    · split
      · exact hidle
      · split
        · simpa using hidle
        · exact lineSound_storeResult now _ _ _ _ hidle

theorem lineOf_startEvaluation (now : Time) (s : State) : lineOf (startEvaluation now s) = lineOf s := by
  unfold startEvaluation
  split
  · split <;> rfl
  · rfl

theorem lineSound_rescored (now : Time) (j : JunctionId) (i : SlotId) (f : Record → Record) (b : Bool) {s : State}
    (h : LineSound (lineOf s)) : LineSound (lineOf (if b then
      issueCheck now j (enqueue i (moveCandidate j i (onRecord i f s))) else enqueue i (onRecord i f s))) := by
  split
  · refine lineSound_issueCheck now j ?_
    simpa using h
  · simpa using h

theorem lineSound_deliverDetection (m : DetectionMsg) {s : State} (h : LineSound (lineOf s)) :
    LineSound (lineOf (deliverDetection m s)) := by
  cases m with
  | checkIn c =>
    change LineSound (lineOf (checkIn c s))
    unfold checkIn
    split
    · simpa using h
    · split
      · unfold createRecord
        split
        · simpa using h
        · simpa using h
      · split
        · exact lineSound_rescored s.time _ _ _ _ h
        · exact h
  | update u =>
    change LineSound (lineOf (update u s))
    unfold update
    split
    · simpa using h
    · split
      · exact h
      · split
        · simpa using h
        · exact h
  | checkOut v j => exact lineSound_retireKey s.time v j .served h
  | cancel v j => exact lineSound_retireKey s.time v j .withdrawn h

/-! ### Junction clocks (R7 to R19, R130) -/

theorem lineOf_setReason (j : JunctionId) (reason : DarkReason) (s : State) : lineOf (setReason j reason s) = lineOf s :=
  lineOf_onJunction_of_desk rfl

theorem lineSound_loseLink (now : Time) (j : JunctionId) {s : State} (h : LineSound (lineOf s)) :
    LineSound (lineOf (loseLink now j s)) := by
  have hlost : LineSound (lineOf (onJunction j (fun c => { c with liveness := none, localMode := none }) s)) := by
    rw [lineOf_onJunction_of_desk rfl]
    exact h
  unfold loseLink
  dsimp only
  split
  · exact lineSound_goDark now j .linkLost hlost
  · rw [lineOf_setReason]
    exact hlost

theorem lineSound_reportMode (now : Time) (j : JunctionId) (m : LocalMode) {s : State} (h : LineSound (lineOf s)) :
    LineSound (lineOf (reportMode now j m s)) := by
  have hmode : LineSound (lineOf (onJunction j (fun c => { c with localMode := some m }) s)) := by
    rw [lineOf_onJunction_of_desk rfl]
    exact h
  unfold reportMode
  dsimp only
  split
  · split
    · exact hmode
    · exact lineSound_goDark now j .localMode hmode
  · rw [lineOf_setReason]
    exact hmode

theorem lineOf_renewLiveness (j : JunctionId) (s : State) : lineOf (renewLiveness j s) = lineOf s := by
  refine lineOf_onJunction_of_desk ?_
  unfold regained
  split <;> rfl

theorem lineSound_tryEnterLive (now : Time) (j : JunctionId) (count : Byte) {s : State} (h : LineSound (lineOf s)) :
    LineSound (lineOf (tryEnterLive now j count s)) := by
  unfold tryEnterLive
  split
  · refine lineSound_issueCheck now j ?_
    rw [lineOf_enqueueWhere, lineOf_onJunction_of_desk rfl]
    exact h
  · rw [lineOf_setReason]
    exact h

theorem lineOf_markFlight (j : JunctionId) (s : State) : lineOf (markFlight j s) = lineOf s := by
  unfold markFlight
  split
  · split
    · exact lineOf_onRecord ..
    · rfl
  · rfl

theorem lineOf_markCandidates (j : JunctionId) (s : State) : lineOf (markCandidates j s) = lineOf s := by
  unfold markCandidates
  generalize (junctionAt s j).candidates = l
  induction l generalizing s with
  | nil => rfl
  | cons i l ih => exact (ih _).trans (lineOf_onRecord ..)

theorem lineOf_endForAdoption (j : JunctionId) (s : State) : lineOf (endForAdoption j s) = lineOf s := by
  unfold endForAdoption
  split
  · rw [lineOf_returnHolder, lineOf_clearGrant]
  · rfl

theorem lineSound_adoptPlan (now : Time) (j : JunctionId) (count : Byte) (p : Plan) {s : State} (h : LineSound (lineOf s)) :
    LineSound (lineOf (adoptPlan now j count p s)) := by
  have hmarked : LineSound (lineOf (markFlight j s)) := by rw [lineOf_markFlight]; exact h
  unfold adoptPlan
  dsimp only
  refine lineSound_tryEnterLive now j count ?_
  rw [lineOf_onJunction_of_desk rfl]
  split
  · rw [lineOf_markCandidates, lineOf_endForAdoption]
    exact lineSound_withdraw j (fun k hk => by simpa using hk) hmarked
  · exact hmarked

theorem lineSound_queueTrim (now : Time) (j : JunctionId) {s : State} (h : LineSound (lineOf s)) :
    LineSound (lineOf (queueTrim now j s)) := by
  unfold queueTrim
  dsimp only
  split
  · next hcan => exact lineSound_directed now h hcan.2 rfl (lineOf_onJunction rfl)
  · exact h

theorem lineSound_nextCycle (now : Time) (j : JunctionId) (count : Byte) {s : State} (h : LineSound (lineOf s)) :
    LineSound (lineOf (nextCycle now j count s)) := by
  unfold nextCycle
  dsimp only
  have hcycled : LineSound (lineOf (raiseIf (slips s.policy now count (junctionAt s j)) .syncSlip
      (raiseIf (beyondDebtLimit s.policy now (junctionAt s j)) .debtLimit
        (onJunction j (nextCycleContext s.policy now count) s)))) := by
    rw [lineOf_raiseIf, lineOf_raiseIf, lineOf_onJunction_of_desk rfl]
    exact h
  have htrim := lineSound_queueTrim now j hcycled
  split
  · refine lineSound_issueCheck now j ?_
    rw [lineOf_enqueueWhere]
    exact htrim
  · rw [lineOf_enqueueWhere]
    exact htrim

theorem lineSound_ofActivePlan (now : Time) (j : JunctionId) (count planId : Byte) {s : State} (h : LineSound (lineOf s)) :
    LineSound (lineOf (if planIdOf (junctionAt s j).activePlan = some planId then
      if isLive (junctionAt s j) then nextCycle now j count s else tryEnterLive now j count s
      else mismatch now j s)) := by
  split
  · split
    · exact lineSound_nextCycle now j count h
    · exact lineSound_tryEnterLive now j count h
  · unfold mismatch
    split
    · exact h
    · split
      · exact lineSound_goDark now j .planMismatch h
      · rw [lineOf_setReason]
        exact h

theorem lineSound_cycleStart (now : Time) (j : JunctionId) (count planId : Byte) {s : State} (h : LineSound (lineOf s)) :
    LineSound (lineOf (cycleStart now j count planId s)) := by
  unfold cycleStart
  dsimp only
  split
  · split
    · exact lineSound_adoptPlan now j count _ h
    · exact lineSound_ofActivePlan now j count planId h
  · exact lineSound_ofActivePlan now j count planId h

theorem lineSound_progress (now : Time) (j : JunctionId) (ends : GrantKind) (phase : Byte) {s : State}
    (h : LineSound (lineOf s)) : LineSound (lineOf (progress now j ends phase s)) := by
  unfold progress
  split
  · exact lineSound_issueCheck now j (lineSound_endAccepted now j _ false none (fun _ => by simp [coverHolder]) h)
  · exact h

theorem lineSound_stepReported (now : Time) (j : JunctionId) (ends : GrantKind) (phase : Byte) (k : Nat) (b : Bool)
    {s : State} (h : LineSound (lineOf s)) :
    LineSound (lineOf (progress now j ends phase (raiseIf b .syncSlip (setStep now j k s)))) := by
  refine lineSound_progress now j ends phase ?_
  rw [lineOf_raiseIf, setStep, lineOf_onJunction_of_desk rfl]
  exact h

theorem lineSound_phaseStart (now : Time) (j : JunctionId) (phase : Byte) {s : State} (h : LineSound (lineOf s)) :
    LineSound (lineOf (phaseStart now j phase s)) := by
  unfold phaseStart
  dsimp only
  split
  · split
    · simpa using h
    · exact lineSound_stepReported now j .advance phase _ _ h
  · exact h

theorem lineSound_phaseEnd (now : Time) (j : JunctionId) (phase : Byte) {s : State} (h : LineSound (lineOf s)) :
    LineSound (lineOf (phaseEnd now j phase s)) := by
  unfold phaseEnd
  dsimp only
  split
  · split
    · simpa using h
    · exact lineSound_stepReported now j .extend phase _ _ h
  · exact h

/-! ### Passages and segments -/

theorem lineOf_passageAt (now : Time) (v : Half) (j : JunctionId) (s : State) : lineOf (passageAt now v j s) = lineOf s := by
  have hsample : ∀ (i : JunctionId) (x : Int), lineOf (handSample now i j x s) = lineOf s := fun i x => by
    unfold handSample
    split
    · rfl
    · split
      · rfl
      · split
        · unfold takeSample
          dsimp only
          split
          · rfl
          · simp [enqueueTied]
        · unfold takeOverrun
          split
          · split
            · rfl
            · simp [enqueueTied]
          · rfl
          · rfl
  unfold passageAt
  split
  · refine (lineOf_congr rfl rfl rfl : lineOf _ = lineOf _).trans ?_
    split
    · split
      · rfl
      · exact hsample ..
    · rfl
  · rfl

/-! ### The junction link (R154, R158) -/

theorem byteOf_of_junctionOf {b : Byte} {j : JunctionId} (h : junctionOf b = some j) : byteOf j.val = b := by
  have hval := junctionOf_eq_some_iff.mp h
  refine BitVec.eq_of_toNat_eq ?_
  rw [byteOf_toNat, hval]
  exact Nat.mod_eq_of_lt (j.isLt.trans (by decide))

/-- A message whose answer, if it is one, is to a directive that is not WAITING. -/
theorem lineSound_deliverJunction (m : JunctionMsg) {s : State} (h : LineSound (lineOf s))
    (hunsent : ∀ a ∈ answerOf m, ∀ d ∈ s.directives,
      ¬(byteOf d.junction.val = a.1 ∧ d.tag = a.2 ∧ d.sending = false ∧ isRelease d.kind = false)) :
    LineSound (lineOf (deliverJunction m s)) := by
  unfold deliverJunction
  split
  · simpa using h
  · next j hj =>
    have hheard : LineSound (lineOf (renewLiveness j s)) := by rw [lineOf_renewLiveness]; exact h
    have hsent : ∀ tag, answerOf m = some (msgJunction m, tag) → ∀ d ∈ (renewLiveness j s).directives, d.junction = j →
        d.tag = tag → isRelease d.kind = false → d.sending = true := fun tag hm d hd hdj hdt hdr => by
      by_contra hs
      exact hunsent _ hm d hd ⟨by rw [hdj]; exact byteOf_of_junctionOf hj, hdt, Bool.eq_false_iff.mpr hs, hdr⟩
    cases m with
    | status _ mode =>
      change LineSound (lineOf (deliverStatus j mode _))
      unfold deliverStatus
      split
      · exact lineSound_reportMode _ j _ hheard
      · simpa using hheard
    | cycleStart _ count planId => exact lineSound_cycleStart _ j count planId hheard
    | phaseStart _ phase => exact lineSound_phaseStart _ j phase hheard
    | phaseEnd _ phase => exact lineSound_phaseEnd _ j phase hheard
    | passage _ _ v =>
      change LineSound (lineOf (passageAt _ v j _))
      rw [lineOf_passageAt]
      exact lineSound_retireKey _ v (byteOf j.val) .served hheard
    | accept _ tag => exact lineSound_acceptAnswer hheard (hsent tag rfl) _
    | decline _ tag _ => exact lineSound_declineAnswer hheard (hsent tag rfl) _

theorem lineOf_discardFrame (link : Link) (s : State) : lineOf (discardFrame link s) = lineOf s := by
  rw [discardFrame, lineOf_raise, lineOf_setAssembler]

/-- A byte that delivers no junction link message. -/
theorem lineSound_receiveByte (link : Link) (b : Byte) (e : Bool) {s : State} (h : LineSound (lineOf s))
    (hnone : deliveredMsg s (.linkByteReceived link b e) = none) : LineSound (lineOf (receiveByte link b e s)) := by
  have hset : ∀ a, LineSound (lineOf (setAssembler link a s)) := fun a => by rw [lineOf_setAssembler]; exact h
  have hdiscard : LineSound (lineOf (discardFrame link s)) := by rw [lineOf_discardFrame]; exact h
  unfold receiveByte
  split
  · split
    · exact hset _
    · exact h
  · next phase taken gap hrx =>
    split
    · exact hdiscard
    · next he =>
      unfold takeByte
      split
      · exact hset _
      · split
        · exact hset _
        · exact hdiscard
      · exact hset _
      · split
        · exact hset _
        · next hlength =>
          unfold completeFrame
          dsimp only
          split
          · next hcheck =>
            cases link with
            | detection =>
              change LineSound (lineOf (match detectionMsg _ _ with | some m => deliverDetection m _ | none => _))
              split
              · exact lineSound_deliverDetection _ (hset .hunt)
              · exact hset .hunt
            | junction =>
              have hmsg : junctionMsg (byteAt taken 1) ((taken.take (takenLength taken + 2)).drop 2) = none := by
                have hrx' : s.junctionRx = .receiving .check taken gap := hrx
                rw [Bool.not_eq_true] at he
                subst he
                simp only [deliveredMsg, hrx'] at hnone
                rwa [if_pos ⟨hlength, hcheck⟩] at hnone
              have hframe : deliverFrame .junction (byteAt taken 1) ((taken.take (takenLength taken + 2)).drop 2)
                  (setAssembler .junction .hunt s) = setAssembler .junction .hunt s := by
                simp only [deliverFrame, hmsg]
              rw [hframe]
              exact hset .hunt
          · exact hdiscard

/-! ### The transmitter's sent event (R158) -/

theorem sending_eraseP (q : List Directive) :
    ((q.eraseP Directive.sending).filter Directive.sending).length = (q.filter Directive.sending).length - 1 := by
  induction q with
  | nil => rfl
  | cons d q ih => cases hs : d.sending <;> simp [hs, ih]

/-- The SENDING entry leaves its junction's side of the queue. -/
theorem sideOf_eraseP {q : List Directive} {d : Directive} (hd : q.find? Directive.sending = some d) (k : JunctionId)
    (b : Bool) : (sideOf (q.eraseP Directive.sending) k b).Sublist (sideOf q k b)
      ∧ (sideOf (q.eraseP Directive.sending) k b).length
          = (sideOf q k b).length - if d.junction = k ∧ isRelease d.kind = b then 1 else 0 := by
  refine ⟨List.Sublist.filter _ List.eraseP_sublist, ?_⟩
  induction q with
  | nil => exact absurd hd nofun
  | cons e q ih =>
    cases hs : e.sending with
    | true =>
      obtain rfl : e = d := by simpa [List.find?_cons, hs] using hd
      by_cases hk : e.junction = k ∧ isRelease e.kind = b
      · simp [hs, sideOf, hk]
      · have hk' : (decide (e.junction = k) && (isRelease e.kind == b)) = false := by
          simpa [Bool.and_eq_false_iff, Decidable.not_and_iff_not_or_not] using hk
        simp [hs, sideOf, hk, hk']
    | false =>
      have hd' : q.find? Directive.sending = some d := by simpa [List.find?_cons, hs] using hd
      have hmem : d ∈ q := List.mem_of_find?_eq_some hd'
      have hpos : d.junction = k ∧ isRelease d.kind = b → 0 < (sideOf q k b).length := fun hk =>
        List.length_pos_of_mem (mem_sideOf.mpr ⟨hmem, hk⟩)
      have ih := ih hd'
      rw [List.eraseP_cons_of_neg (by simp [hs])]
      by_cases he : (decide (e.junction = k) && (isRelease e.kind == b)) = true
      · simp only [sideOf, List.filter_cons, he, if_true, List.length_cons]
        change (sideOf _ k b).length + 1 = (sideOf q k b).length + 1 - _
        rw [ih]
        split
        · next hk => have := hpos hk; omega
        · rfl
      · simp only [sideOf, List.filter_cons, he, Bool.false_eq_true, if_false]
        exact ih

/-- The line once the SENDING entry has left and its junction has been told. -/
theorem lineWaits_sent {s u : State} {d : Directive} (h : LineSound (lineOf s)) (hbusy : s.transmitter.isSome = true)
    (hd : sendingEntry s = some d) (hqueue : u.directives = s.directives.eraseP Directive.sending)
    (hidle : u.transmitter = none) (hothers : ∀ k, k ≠ d.junction → junctionAt u k = junctionAt s k)
    (hj : lineDeskOf (junctionAt u d.junction) = { lineDeskOf (junctionAt s d.junction) with
        releaseQueued := (junctionAt s d.junction).releaseQueued && !isRelease d.kind
        timed := (lineDeskOf (junctionAt u d.junction)).timed })
    (htimed : (lineDeskOf (junctionAt u d.junction)).timed = true → (junctionAt s d.junction).acceptDeadline.isSome = true
      ∨ (isRelease d.kind = false ∧ (junctionAt s d.junction).outstanding.isSome = true)) : LineWaits (lineOf u) := by
  have hside := fun k b => sideOf_eraseP (q := s.directives) hd k b
  refine ⟨?_, fun k => ?_⟩
  · have hcount := h.sending
    change ((u.directives).filter Directive.sending).length = if u.transmitter.isSome then 1 else 0
    rw [hqueue, hidle, sending_eraseP]
    rw [show (lineOf s).busy = true from hbusy] at hcount
    have hcount' : (s.directives.filter Directive.sending).length = 1 := hcount
    rw [hcount']
    rfl
  · change LineDeskSound u.directives k (lineDeskOf (junctionAt u k))
    obtain ⟨hreleases, hother, hwaiting, htimed'⟩ := h.desks k
    have hreleases : (sideOf s.directives k true).length = if (junctionAt s k).releaseQueued then 1 else 0 := hreleases
    have hother : (sideOf s.directives k false).length ≤ 1 := hother
    rw [hqueue]
    by_cases hk : k = d.junction
    · subst hk
      have hmem : d ∈ s.directives := List.mem_of_find?_eq_some hd
      rw [hj]
      refine ⟨?_, ((hside _ false).1.length_le).trans hother, fun e he => hwaiting e ((hside _ false).1.subset he),
        fun ht => ?_⟩
      · rw [(hside d.junction true).2, hreleases]
        cases hr : isRelease d.kind with
        | false => simp
        | true =>
          have hpos := List.length_pos_of_mem (mem_sideOf.mpr ⟨hmem, rfl, hr⟩)
          rw [hreleases] at hpos
          split at hpos
          · next hflag => simp [hflag]
          · exact absurd hpos (Nat.lt_irrefl 0)
      · obtain hd' | ⟨hr, hout⟩ := htimed ht
        · obtain ⟨htag, hnil⟩ := htimed' hd'
          exact ⟨htag, List.sublist_nil.mp (hnil ▸ (hside _ false).1)⟩
        · refine ⟨by simpa [lineDeskOf] using hout, List.eq_nil_of_length_eq_zero ?_⟩
          rw [(hside d.junction false).2, if_pos ⟨rfl, hr⟩]
          omega
    · have hne : ¬(d.junction = k ∧ isRelease d.kind = true) := fun h => hk h.1.symm
      rw [hothers k hk]
      refine ⟨?_, ((hside k false).1.length_le).trans hother, fun e he => hwaiting e ((hside k false).1.subset he),
        fun ht => (htimed' ht).imp_right fun (hnil : sideOf s.directives k false = []) =>
          List.sublist_nil.mp (hnil ▸ (hside k false).1)⟩
      rw [(hside k true).2, if_neg hne, Nat.sub_zero]
      exact hreleases

theorem lineSound_sentEvent (now : Time) {s : State} (h : LineSound (lineOf s)) : LineSound (lineOf (sentEvent now s)) := by
  unfold sentEvent
  split
  · exact h
  · next x hx =>
    have hbusy : s.transmitter.isSome = true := by rw [hx]; rfl
    dsimp only
    split
    · next hnone =>
      have hcount : (s.directives.filter Directive.sending).length = 1 := by
        have := h.sending
        rwa [show (lineOf s).busy = true from hbusy] at this
      obtain ⟨d, hd⟩ := List.length_pos_iff_exists_mem.mp (hcount ▸ Nat.one_pos)
      obtain ⟨hmem, hs⟩ := List.mem_filter.mp hd
      exact absurd hs (List.find?_eq_none.mp hnone d hmem)
    · next d hd =>
      split
      · next hr =>
        refine lineSound_transmitNext now (lineWaits_sent h hbusy hd rfl rfl (fun k hk => ?_) ?_ fun ht => .inl ?_)
        · exact junctionAt_onJunction_ne (Ne.symm hk) ..
        · rw [junctionAt_onJunction_same, hr]
          simp [lineDeskOf, junctionAt]
        · rw [junctionAt_onJunction_same] at ht
          exact ht
      · next hr =>
        have hr : isRelease d.kind = false := Bool.eq_false_iff.mpr hr
        refine lineSound_issueCheck now _ (lineSound_transmitNext now
          (lineWaits_sent h hbusy hd rfl rfl (fun k hk => ?_) ?_ fun ht => ?_))
        · exact junctionAt_onJunction_ne (Ne.symm hk) ..
        · rw [reportSent, junctionAt_onJunction_same, hr]
          split <;> simp [lineDeskOf, junctionAt]
        · rw [reportSent, junctionAt_onJunction_same] at ht
          split at ht
          · next hany =>
            refine .inr ⟨hr, Option.isSome_iff_ne_none.mpr fun hout => ?_⟩
            have hout' : (junctionAt { s with
                directives := s.directives.eraseP Directive.sending, transmitter := none } d.junction).outstanding = none := hout
            rw [hout'] at hany
            exact absurd hany nofun
          · exact .inl ht

/-! ### The supervisor's commands -/

theorem lineSound_foldl {α : Type} {F : State → α → State}
    (hF : ∀ t x, LineSound (lineOf t) → LineSound (lineOf (F t x))) (l : List α) {s : State} (h : LineSound (lineOf s)) :
    LineSound (lineOf (l.foldl F s)) := by
  induction l generalizing s with
  | nil => exact h
  | cons x l ih => exact ih (hF s x h)

theorem lineSound_policySet (b : PolicyBody) {s : State} (h : LineSound (lineOf s)) :
    LineSound (lineOf (policySet b s).1) := by
  unfold policySet
  generalize List.finRange 16 = l
  split
  · refine lineSound_foldl (fun t j ht => ?_) l (s := { s with policy := policyOf b }) h
    unfold resetCycleLimit
    dsimp only
    split
    · split
      · exact lineSound_goDark _ j .noCycle ht
      · rw [lineOf_onJunction_of_desk rfl]
        exact ht
    · exact ht
  · exact h

/-- The emptied orders are not of the line. -/
theorem lineOf_emptiedTable (s : State) : lineOf (emptiedTable s) = lineOf s := by
  refine congrArg (Line.mk _ _) (funext fun j => ?_)
  have hj : junctionAt (emptiedTable s) j = emptyOrder (junctionAt s j) := by simp [junctionAt, emptiedTable]
  rw [hj]
  rfl

theorem lineSound_corridorClear (now : Time) {s : State} (h : LineSound (lineOf s)) :
    LineSound (lineOf (corridorClear now s)) := by
  have hended : LineSound (lineOf (endedGrants now s)) := by
    unfold endedGrants
    generalize List.finRange 16 = l
    refine lineSound_foldl (fun t j ht => ?_) l (lineSound_foldl (fun t j ht => ?_) _ h)
    · unfold clearOffered
      split
      · rw [endOffered, lineOf_clearGrant]
        exact lineSound_withdraw j not_release_of_isGrantKind ht
      · exact ht
    · unfold clearAccepted
      split
      · rw [lineOf_clearGrant]
        exact lineSound_releaseGrant now j _ ht
      · exact ht
  rw [corridorClear_eq, lineOf_emptiedTable]
  exact hended

theorem lineSound_act (c : Command) {s : State} (h : LineSound (lineOf s)) : LineSound (lineOf (act c s).1) := by
  have hdesk : ∀ (j : JunctionId) (f : Junction → Junction), lineDeskOf (f (junctionAt s j)) = lineDeskOf (junctionAt s j) →
      LineSound (lineOf (onJunction j f s)) := fun j f hf => by
    rw [lineOf_onJunction_of_desk hf]
    exact h
  cases c with
  | planStage b =>
    change LineSound (lineOf (planStage b s).1)
    unfold planStage
    split
    · exact h
    · split
      · split
        · exact h
        · exact hdesk _ _ rfl
      · exact h
  | segmentSet b =>
    change LineSound (lineOf (segmentSet b s).1)
    unfold segmentSet
    split
    · exact h
    · split
      · split
        · exact h
        · split
          · split
            · exact h
            · rw [enqueueTied, lineOf_enqueueWhere, lineOf_setSegment]
              exact h
          · exact h
      · exact h
  | policySet b => exact lineSound_policySet b h
  | junctionSuspend b =>
    change LineSound (lineOf (junctionSuspend b s).1)
    unfold junctionSuspend
    split
    · exact hdesk _ _ rfl
    · exact h
  | junctionResume b =>
    change LineSound (lineOf (junctionResume b s).1)
    unfold junctionResume
    split
    · exact lineSound_issueCheck s.time _ (hdesk _ _ rfl)
    · exact h
  | recordLookup name =>
    change LineSound (lineOf (recordLookup name s).1)
    unfold recordLookup
    split
    · exact h
    · split <;> exact h
  | recordRetire name =>
    change LineSound (lineOf (recordRetire name s).1)
    unfold recordRetire
    split
    · exact h
    · exact lineSound_retire s.time _ .retired h
  | recordForce name =>
    change LineSound (lineOf (recordForce name s).1)
    unfold recordForce
    split
    · exact h
    · split
      · exact lineSound_rescored s.time _ _ _ _ h
      · exact h
  | listStart b =>
    change LineSound (lineOf (listStart b s).1)
    unfold listStart
    split <;> exact h
  | listContinue =>
    change LineSound (lineOf (listContinue s).1)
    unfold listContinue
    split
    · exact h
    · split <;> exact h
  | noticeWrite t a m =>
    have hline : lineOf (noticeWrite t a m s).1 = lineOf s := by
      unfold noticeWrite
      split_ifs <;> rfl
    exact hline ▸ h
  | corridorClear => exact lineSound_corridorClear s.time h
  | planRead | segmentRead | policyRead | junctionQuery | noticeRead => exact h

theorem lineSound_takeCommand (k : Nat) (c : Command) {s : State} (h : LineSound (lineOf s)) :
    LineSound (lineOf (takeCommand k c s)) := by
  unfold takeCommand
  split
  · exact h
  · exact lineSound_act c h

theorem lineSound_transaction (first : Byte) (rest : List Byte) {s : State} (h : LineSound (lineOf s)) :
    LineSound (lineOf (transaction first rest s)) := by
  unfold transaction
  split
  · split
    · exact lineSound_takeCommand _ _ h
    · exact h
  · split
    · unfold readResponse
      dsimp only
      split <;> exact h
    · exact h

/-! ### Every command -/

/-- Every command but POWER_ON and the tick keeps the line, if it answers no directive that is still WAITING. -/
theorem lineSound_exec (c : Instr) {s : State} (hpower : c ≠ .powerOn) (htick : c ≠ .corridorTimeTick)
    (h : LineSound (lineOf s)) (hanswer : ¬AnswersUnsent s c) : ∃ t, exec c s = .next t ∧ LineSound (lineOf t) := by
  have hhunt : ∀ link, LineSound (lineOf (setAssembler link .hunt s)) := fun link => by rw [lineOf_setAssembler]; exact h
  cases hm : deliveredMsg s c with
  | some m =>
    refine ⟨_, exec_of_deliveredMsg hm, lineSound_deliverJunction m (hhunt .junction) fun a ha d hd hsent => hanswer ?_⟩
    exact ⟨a, by rw [hm]; exact ha, d, hd, hsent⟩
  | none =>
    cases c with
    | powerOn => exact absurd rfl hpower
    | corridorTimeTick => exact absurd rfl htick
    | foreignJunctionFrame | status | cycleStart | phaseStart | phaseEnd | passage | accept | decline => exact absurd hm nofun
    | checkIn | update | checkOut | cancel => exact ⟨_, rfl, lineSound_deliverDetection _ (hhunt .detection)⟩
    | badFrame link =>
      refine ⟨_, rfl, ?_⟩
      rw [lineOf_discardFrame]
      exact h
    | gapDeadlineExpiry link =>
      refine exists_next_of_expiry (fun _ => ?_) h
      rw [lineOf_discardFrame]
      exact h
    | livenessExpiry j => exact exists_next_of_expiry (fun d => lineSound_loseLink d j h) h
    | cycleLimitExpiry j => exact exists_next_of_expiry (fun d => lineSound_goDark d j .noCycle h) h
    | recordExpiry i => exact exists_next_of_expiry (fun d => by rw [lineOf_raise]; exact lineSound_retire d i .expired h) h
    | acceptDeadlineExpiry j =>
      simp only [exec, execAcceptDeadlineExpiry]
      cases hd : (junctionAt s j).acceptDeadline with
      | none => exact ⟨s, rfl, h⟩
      | some d => exact exists_next_of_expiry (fun d => lineSound_answerTimeout d h (by rw [hd]; rfl)) h
    | passageEntryExpiry v => exact exists_next_of_expiry (P := fun t => LineSound (lineOf t)) (fun _ => h) h
    | staleDeadlineExpiry k =>
      simp only [exec, execStaleDeadlineExpiry]
      split
      · refine exists_next_of_expiry (fun _ => ?_) h
        rw [goStale, enqueueTied, lineOf_enqueueWhere, lineOf_setSegment]
        exact h
      · exact ⟨s, rfl, h⟩
    | evaluationStart =>
      refine ⟨_, rfl, ?_⟩
      rw [lineOf_startEvaluation]
      exact h
    | evaluationCompletion => exact ⟨_, rfl, lineSound_completeEvaluation _ h⟩
    | sentEvent => exact ⟨_, rfl, lineSound_sentEvent _ h⟩
    | linkByteReceived link b e => exact ⟨_, rfl, lineSound_receiveByte link b e h hm⟩
    | commandFrameDiscarded first rest => exact ⟨_, rfl, lineSound_transaction first rest h⟩
    | readTransaction n =>
      refine ⟨_, rfl, ?_⟩
      unfold readResponse
      dsimp only
      split <;> exact h
    | responseReady =>
      refine ⟨_, rfl, ?_⟩
      unfold makeReady
      split <;> exact h
    | _ => exact ⟨_, rfl, lineSound_takeCommand _ _ h⟩

theorem directivesSound_poweredOn (s : State) : DirectivesSound (poweredOn s) := by
  refine (directivesSound_iff _).mpr ⟨⟨rfl, fun j => ?_⟩, fun _ => rfl⟩
  change LineDeskSound [] j (lineDeskOf (junctionAt (poweredOn s) j))
  rw [junctionAt_poweredOn]
  exact ⟨rfl, Nat.zero_le _, nofun, nofun⟩

/-- Settles O10: the line is kept by every command that answers no WAITING directive. -/
theorem stepKeepsTheDirectivesSound : Obligations.StepKeepsTheDirectivesSound := by
  intro s t hs hanswer h
  obtain rfl | ⟨c, rest, hq, hexec⟩ := step_cases h
  · exact hs
  by_cases hpower : c = .powerOn
  · subst hpower
    obtain rfl := Host.Outcome.next.inj hexec
    exact directivesSound_poweredOn { s with pending := rest }
  by_cases htick : c = .corridorTimeTick
  · subst htick
    obtain rfl := Host.Outcome.next.inj hexec
    exact hs
  · have hunsent : ¬AnswersUnsent { s with pending := rest } c := hanswer c (by rw [hq]; rfl)
    obtain ⟨u, hu, hsound⟩ := lineSound_exec c (s := { s with pending := rest }) hpower htick
      ((directivesSound_iff s).mp hs) hunsent
    obtain rfl := Host.Outcome.next.inj (hu.symm.trans hexec)
    exact (directivesSound_iff _).mpr hsound

end Sys2Proof.Proofs

/-! The state after reset (O4). -/

namespace Sys2Proof.Proofs

open Sys2Proof.Machine Sys2Proof.Safety Sys2Proof.Laws

theorem tableConsistent_poweredOn (s : State) : TableConsistent (poweredOn s) :=
  (tableConsistent_iff _).mpr ⟨keysDiffer_poweredOn s, tableSound_poweredOn s⟩

theorem checkInsRecent_poweredOn (s : State) : CheckInsRecent (poweredOn s) := fun i r hr => by
  rw [recordAt_poweredOn] at hr; exact absurd hr nofun

/-- At power-on no deadline runs and nothing is in flight, being sent or executed. -/
theorem timely_poweredOn {s : State} (hq : s.pending = []) : Timely (poweredOn s) := by
  refine ⟨fun j => ?_, fun i d hd => ?_, fun e he => ?_, fun k g hg => ?_, fun d hd => ?_, fun d hd => ?_,
    fun f hf => ?_, fun x hx => ?_, ?_, fun h => ?_⟩
  · rw [junctionAt_poweredOn]
    exact ⟨nofun, nofun, nofun⟩
  · rw [recordAt_poweredOn] at hd
    exact absurd hd nofun
  · exact absurd (show e ∈ [] from he) List.not_mem_nil
  · rw [segmentAt_poweredOn] at hg
    exact absurd hg nofun
  · exact absurd (show none = some d from hd) nofun
  · exact absurd (show none = some d from hd) nofun
  · exact absurd (show none = some f from hf) nofun
  · exact absurd (show none = some x from hx) nofun
  · have hport : (poweredOn s).port = .idle := rfl
    rw [hport]
    trivial
  · have hq' : (poweredOn s).pending = [] := hq
    rw [hq'] at h
    exact absurd h nofun

/-- Settles O4: the state after reset is the powered-on one. -/
theorem resetMeetsTheInvariants : Obligations.ResetMeetsTheInvariants :=
  ⟨noticesCounted_poweredOn State.reset, recoveryBounded_poweredOn State.reset, clocksSound_poweredOn State.reset,
    segmentsBounded_poweredOn State.reset, ⟨Nat.zero_le _, List.nodup_nil, by simp [State.reset]⟩, ⟨trivial, trivial⟩,
    recordsBounded_poweredOn State.reset, queueSound_poweredOn State.reset, resultsBounded_poweredOn State.reset,
    tableConsistent_poweredOn State.reset, (grantsBounded_iff _).mpr (tableGranted_poweredOn State.reset),
    (ordersSorted_iff _).mpr (tableSorted_poweredOn State.reset), checkInsRecent_poweredOn State.reset,
    directivesSound_poweredOn State.reset, timely_poweredOn (s := State.reset) rfl⟩

end Sys2Proof.Proofs

/-! The junction clocks: expiries, STATUS and phase reports (O12, O13, O17, O18). -/

namespace Sys2Proof.Proofs

open Sys2Proof.Machine Sys2Proof.Safety Sys2Proof.Laws

/-- The state is made of its junctions, its slots, its queues, its notices and what lies outside them. -/
theorem state_ext {s t : State} (houtside : outside t = outside s) (hjunctions : ∀ j, junctionAt t j = junctionAt s j)
    (hslots : ∀ i, slotAt t i = slotAt s i) (hqueue : t.evalQueue = s.evalQueue) (hdirectives : t.directives = s.directives)
    (htransmitter : t.transmitter = s.transmitter) (hnotices : t.notices = s.notices) : t = s := by
  have hjunctions' : t.junctions = s.junctions := Vector.ext fun k hk => hjunctions ⟨k, hk⟩
  have hslots' : t.slots = s.slots := Vector.ext fun k hk => hslots ⟨k, hk⟩
  cases s
  cases t
  simp only [outside, Outside.mk.injEq] at houtside
  simp_all

/-! ### Expiries that send a junction DARK (R8, R16) -/

/-- The local mode and the liveness deadline are not of what R19 speaks of. -/
theorem wentDark_of_onJunction {now : Time} {j : JunctionId} {reason : DarkReason} {s u : State} {f : Junction → Junction}
    {x : Option Time} {m : Option LocalMode}
    (hf : f (junctionAt s j) = { junctionAt s j with liveness := x, localMode := m })
    (h : WentDark now j reason (onJunction j f s) u) : WentDark now j reason s u := by
  obtain ⟨hj, hnotices, hdirectives, hslots, hothers, hrest⟩ := h
  refine ⟨?_, hnotices, hdirectives, hslots, fun k hk => ?_, hrest⟩
  · rw [junctionAt_onJunction_same, hf] at hj
    exact congrArg (fun d : Junction =>
      { d with localMode := (junctionAt s j).localMode, liveness := (junctionAt s j).liveness }) hj
  · rw [hothers k hk, junctionAt_onJunction_ne (Ne.symm hk)]

theorem due_of_reached {now d : Time} {x : Option Time} (hd : x = some d) (h : 0 ≤ timeDiff now d) :
    due now x = some d := by rw [hd, due_some, if_pos h]

theorem limitOf_eq_some_iff {c : Junction} {d : Time} : limitOf c = some d ↔ c.sync = .live d := by
  unfold limitOf
  cases c.sync <;> simp

theorem loseLink_of_live {j : JunctionId} {s : State} (now : Time) (h : isLive (junctionAt s j) = true) :
    loseLink now j s = goDark now j .linkLost (onJunction j (fun c => { c with liveness := none, localMode := none }) s) :=
  if_pos h

theorem loseLink_of_dark {j : JunctionId} {s : State} (now : Time) (h : isLive (junctionAt s j) = false) :
    loseLink now j s
      = onJunction j (fun c => { c with liveness := none, localMode := none, sync := .dark .linkLost }) s := by
  refine (if_neg (by rw [h]; exact nofun)).trans ?_
  simp [setReason, onJunction, junctionAt]

/-- Settles O12: R8's and R16's expiries by the sync state, each at its deadline. -/
theorem livenessAndCycleLimitExpiriesGoDark : Obligations.LivenessAndCycleLimitExpiriesGoDark := by
  intro j s
  refine ⟨fun d hd hreached hlive => ?_, fun d hd hreached hdark => ?_, fun h => ?_, fun d hd hreached => ?_, fun h => ?_⟩
  · refine ⟨loseLink d j s, by simp only [exec, execLivenessExpiry, due_of_reached hd hreached], ?_⟩
    rw [loseLink_of_live d hlive, junctionAt_goDark, junctionAt_onJunction_same]
    refine ⟨wentDark_of_onJunction (x := none) (m := none) rfl (wentDark_goDark _ _ _ _ ?_), rfl, rfl⟩
    rw [junctionAt_onJunction_same]
    exact hlive
  · simp only [exec, execLivenessExpiry, due_of_reached hd hreached, loseLink_of_dark d hdark]
  · simp only [exec, execLivenessExpiry, due_eq_none s.time _ h]
  · have hlive : isLive (junctionAt s j) = true := by rw [isLive, hd]
    refine ⟨goDark d j .noCycle s, ?_, wentDark_goDark d j .noCycle s hlive, ?_⟩
    · simp only [exec, execCycleLimitExpiry, due_of_reached (limitOf_eq_some_iff.mpr hd) hreached]
    · rw [junctionAt_goDark]
      exact ⟨rfl, rfl⟩
  · simp only [exec, execCycleLimitExpiry, due_eq_none s.time _ fun d hd => h d (limitOf_eq_some_iff.mp hd)]

/-! ### STATUS (R9) -/

theorem localModeOf_eq {mode : Byte} {m : LocalMode} (h : mode.toNat = modeNumber m) : localModeOf mode = some m := by
  have hmode : mode = BitVec.ofNat 8 (modeNumber m) := BitVec.eq_of_toNat_eq (by rw [h]; cases m <;> rfl)
  rw [hmode]
  cases m <;> rfl

theorem localModeOf_eq_none {mode : Byte} (h : 3 < mode.toNat) : localModeOf mode = none := by
  have hne : ∀ k : Byte, k.toNat ≤ 3 → mode ≠ k := fun k hk he => by rw [he] at h; omega
  unfold localModeOf
  rw [if_neg (hne _ (by decide)), if_neg (hne _ (by decide)), if_neg (hne _ (by decide)), if_neg (hne _ (by decide))]

theorem exec_status {b : Byte} {j : JunctionId} (mode : Byte) (s : State) (h : junctionOf b = some j) :
    exec (.status b mode) s = .next (deliverStatus j mode (heard j s)) :=
  congrArg Host.Outcome.next (deliverJunction_eq (.status b mode) j s h)

theorem exec_status_of_mode {b mode : Byte} {j : JunctionId} {m : LocalMode} (s : State) (h : junctionOf b = some j)
    (hm : mode.toNat = modeNumber m) : exec (.status b mode) s = .next (reportMode s.time j m (heard j s)) := by
  rw [exec_status mode s h, deliverStatus, localModeOf_eq hm]
  rfl

theorem reportMode_of_dark {j : JunctionId} {s : State} {r : DarkReason} (now : Time) (m : LocalMode)
    (h : (junctionAt s j).sync = .dark r) : reportMode now j m s = onJunction j (fun c =>
      { c with localMode := some m, sync := .dark (reasonAfterStatus m r) }) s := by
  unfold reportMode
  rw [h]
  simp [setReason, onJunction, junctionAt]

theorem reasonAfterStatus_eq {m : LocalMode} {r : DarkReason} (h : r ≠ .linkLost) : reasonAfterStatus m r =
    if r = .noPlan then .noPlan else if m = .coord then (if r = .localMode then .awaitingCycle else r) else .localMode := by
  cases r with
  | linkLost => exact absurd rfl h
  | noPlan => rfl
  | localMode | awaitingCycle | planMismatch | noCycle => by_cases hm : m = .coord <;> simp [reasonAfterStatus, hm]

theorem reportMode_of_live {j : JunctionId} {s : State} (now : Time) (m : LocalMode)
    (h : isLive (junctionAt s j) = true) : reportMode now j m s =
      if m = .coord then onJunction j (fun c => { c with localMode := some m }) s
      else goDark now j .localMode (onJunction j (fun c => { c with localMode := some m }) s) := by
  unfold reportMode
  unfold isLive at h
  cases hs : (junctionAt s j).sync with
  | live d => rfl
  | dark r => rw [hs] at h; exact absurd h nofun

/-- Settles O13: R9's table, by the sync state. -/
theorem statusSetsTheModeAndReason : Obligations.StatusSetsTheModeAndReason := by
  intro b mode j s hb
  refine ⟨fun m hm => ⟨fun hlive hcoord => ?_, fun hlive hcoord => ?_, fun r hr hlost => ?_⟩, fun hbad => ?_⟩
  · rw [exec_status_of_mode s hb hm, reportMode_of_live _ _ (by simpa using hlive), if_pos hcoord, hcoord]
  · rw [exec_status_of_mode s hb hm, reportMode_of_live _ _ (by simpa using hlive), if_neg hcoord]
    refine ⟨_, rfl, wentDark_of_onJunction (x := (junctionAt (heard j s) j).liveness) (m := some m) rfl
      (wentDark_goDark _ _ _ _ ?_), ?_⟩
    · rw [junctionAt_onJunction_same]
      exact (isLive_heard j s).trans hlive
    · rw [junctionAt_goDark, junctionAt_onJunction_same]
      exact ⟨rfl, rfl⟩
  · rw [exec_status_of_mode s hb hm, reportMode_of_dark _ _ hr, reasonAfterStatus_eq hlost]
  · rw [exec_status mode s hb, deliverStatus, localModeOf_eq_none hbad]

/-! ### Phase reports (R17, R18) -/

theorem exec_phaseStart {b : Byte} {j : JunctionId} (phase : Byte) (s : State) (h : junctionOf b = some j) :
    exec (.phaseStart b phase) s = .next (phaseStart s.time j phase (heard j s)) :=
  congrArg Host.Outcome.next (deliverJunction_eq (.phaseStart b phase) j s h)

theorem exec_phaseEnd {b : Byte} {j : JunctionId} (phase : Byte) (s : State) (h : junctionOf b = some j) :
    exec (.phaseEnd b phase) s = .next (phaseEnd s.time j phase (heard j s)) :=
  congrArg Host.Outcome.next (deliverJunction_eq (.phaseEnd b phase) j s h)

theorem activeSteps_heard (j : JunctionId) (s : State) :
    activeSteps (junctionAt (heard j s) j) = activeSteps (junctionAt s j) := by
  rw [activeSteps, heard_activePlan, activeSteps]

theorem heard_currentStep (j : JunctionId) (s : State) :
    (junctionAt (heard j s) j).currentStep = (junctionAt s j).currentStep := by rw [junctionAt_heard]

section

variable {c : Junction} {phase : Byte} {k : Nat}

/-- The one step of a phase (R21). -/
theorem stepOfPhase_eq (h : ∀ i, ((activeSteps c)[i]?).map PlanStep.phase = some phase.toNat ↔ i = k) :
    stepOfPhase c phase = some k := by
  have hk := (h k).mpr rfl
  obtain ⟨st, hst, hphase⟩ := Option.map_eq_some_iff.mp hk
  obtain ⟨hlt, rfl⟩ := List.getElem?_eq_some_iff.mp hst
  refine List.findIdx?_eq_some_iff_getElem.mpr ⟨hlt, decide_eq_true hphase, fun i hi => ?_⟩
  have hne : i ≠ k := Nat.ne_of_lt hi
  simp only [decide_eq_true_eq]
  intro hi'
  refine hne ((h i).mp ?_)
  rw [List.getElem?_eq_getElem (hi.trans hlt), Option.map_some, hi']

theorem stepOfPhase_eq_none (h : ∀ st ∈ activeSteps c, st.phase ≠ phase.toNat) : stepOfPhase c phase = none :=
  List.findIdx?_eq_none_iff.mpr fun st hst => decide_eq_false (h st hst)

theorem lt_length_of_phase (h : ∀ i, ((activeSteps c)[i]?).map PlanStep.phase = some phase.toNat ↔ i = k) :
    k < (activeSteps c).length := by
  obtain ⟨st, hst, -⟩ := Option.map_eq_some_iff.mp ((h k).mpr rfl)
  exact (List.getElem?_eq_some_iff.mp hst).1

/-- The step after a step of the plan, in cycle order. -/
theorem stepAfter_eq (h : k < (activeSteps c).length) : stepAfter c k = (k + 1) % (activeSteps c).length := by
  unfold stepAfter
  split
  · next hlt => exact (Nat.mod_eq_of_lt hlt).symm
  · next hge =>
    have hlast : k + 1 = (activeSteps c).length := by omega
    rw [hlast, Nat.mod_self]

theorem map_stepAfter_eq (h : ∀ i ∈ c.currentStep, i < (activeSteps c).length) :
    c.currentStep.map (stepAfter c) = c.currentStep.map fun i => (i + 1) % (activeSteps c).length := by
  cases hc : c.currentStep with
  | none => rfl
  | some i => exact congrArg some (stepAfter_eq (h i hc))

/-- A phase report names the accepted grant of its kind on the phase's step (R119). -/
theorem namesGrant_eq (h : ∀ i, ((activeSteps c)[i]?).map PlanStep.phase = some phase.toNat ↔ i = k) (kind : GrantKind) :
    namesGrant c kind phase = c.grant.filter fun g => g.accepted && decide (g.kind = kind) && decide (g.step = k) := by
  unfold namesGrant
  refine congrArg (fun p => Option.filter p c.grant) (funext fun g => ?_)
  have hstep : decide (((activeSteps c)[g.step]?).map PlanStep.phase = some phase.toNat) = decide (g.step = k) :=
    decide_eq_decide.mpr (h g.step)
  rw [hstep]

theorem namesGrant_eq_none (h : ∀ i, ((activeSteps c)[i]?).map PlanStep.phase = some phase.toNat ↔ i = k)
    {kind : GrantKind} (hg : ∀ g, c.grant = some g → g.accepted = true → g.kind = kind → g.step ≠ k) :
    namesGrant c kind phase = none := by
  rw [namesGrant_eq h]
  refine Option.filter_eq_none_iff.mpr fun g hgrant hall => ?_
  obtain ⟨⟨hacc, hkind⟩, hstep⟩ : (g.accepted = true ∧ g.kind = kind) ∧ g.step = k := by simpa using hall
  exact hg g hgrant hacc hkind hstep

end

theorem progress_of_names {now : Time} {j : JunctionId} {ends : GrantKind} {phase : Byte} {s : State} {g : Grant}
    (h : namesGrant (junctionAt s j) ends phase = some g) :
    progress now j ends phase s = issueCheck now j (endAccepted now j g false none (coverHolder g.slot) s) := by
  rw [progress, h]

theorem progress_of_not_names {now : Time} {j : JunctionId} {ends : GrantKind} {phase : Byte} {s : State}
    (h : namesGrant (junctionAt s j) ends phase = none) : progress now j ends phase s = s := by
  rw [progress, h]

/-- A step set and a notice raised leave what a phase report names. -/
theorem namesGrant_stepped (now : Time) (j : JunctionId) (k : Nat) (b : Bool) (ends : GrantKind) (phase : Byte) (s : State) :
    namesGrant (junctionAt (raiseIf b .syncSlip (setStep now j k s)) j) ends phase
      = namesGrant (junctionAt s j) ends phase := by
  have hj : junctionAt (raiseIf b .syncSlip (setStep now j k s)) j
      = { junctionAt s j with currentStep := some k, stepStart := some now } := by
    rw [junctionAt_congr (raiseIf_junctions ..), setStep, junctionAt_onJunction_same]
  rw [hj]
  rfl

section

variable {b phase : Byte} {j : JunctionId} {s : State} {k : Nat} (hb : junctionOf b = some j)
  (hlive : isLive (junctionAt s j) = true)
  (hphase : ∀ i, ((activeSteps (junctionAt s j))[i]?).map PlanStep.phase = some phase.toNat ↔ i = k)

include hb hlive hphase

/-- A PHASE_START of a phase of the plan at a LIVE junction sets the step, and drives grant progress (R17, R119). -/
theorem exec_phaseStart_of_step
    (hcurrent : ∀ i ∈ (junctionAt s j).currentStep, i < (activeSteps (junctionAt s j)).length) : exec (.phaseStart b phase) s = .next (progress s.time j .advance phase
    (raiseIf (!decide ((junctionAt s j).currentStep = some k
        ∨ (junctionAt s j).currentStep.map (fun i => (i + 1) % (activeSteps (junctionAt s j)).length) = some k))
      .syncSlip (setStep s.time j k (heard j s)))) := by
  have hphase' : ∀ i, ((activeSteps (junctionAt (heard j s) j))[i]?).map PlanStep.phase = some phase.toNat ↔ i = k := by
    rwa [activeSteps_heard]
  have hcurrent' : ∀ i ∈ (junctionAt (heard j s) j).currentStep, i < (activeSteps (junctionAt (heard j s) j)).length := by
    rwa [activeSteps_heard, heard_currentStep]
  rw [exec_phaseStart phase s hb, phaseStart]
  dsimp only
  rw [if_pos ((isLive_heard j s).trans hlive), stepOfPhase_eq hphase']
  dsimp only
  rw [map_stepAfter_eq hcurrent', activeSteps_heard, heard_currentStep, Bool.decide_or]

/-- A PHASE_END sets the step after it (R18, R119). -/
theorem exec_phaseEnd_of_step : exec (.phaseEnd b phase) s = .next (progress s.time j .extend phase
    (raiseIf (decide ((junctionAt s j).currentStep ≠ some k)) .syncSlip
      (setStep s.time j ((k + 1) % (activeSteps (junctionAt s j)).length) (heard j s)))) := by
  have hphase' : ∀ i, ((activeSteps (junctionAt (heard j s) j))[i]?).map PlanStep.phase = some phase.toNat ↔ i = k := by
    rwa [activeSteps_heard]
  rw [exec_phaseEnd phase s hb, phaseEnd, if_pos ((isLive_heard j s).trans hlive), stepOfPhase_eq hphase']
  dsimp only
  rw [stepAfter_eq (lt_length_of_phase hphase'), activeSteps_heard, heard_currentStep]

end

/-- Settles O17: a report sets the step its phase has, and names no grant. -/
theorem phaseReportsMoveTheStep : Obligations.PhaseReportsMoveTheStep := by
  refine ⟨fun b phase j s k hb hlive hphase hcurrent => ⟨fun hgrant => ?_, fun hgrant => ?_⟩,
    fun b phase j s hb => ⟨fun hlive hnone => ?_, fun hdark => ?_⟩⟩
  · have hnone : namesGrant (junctionAt (heard j s) j) .advance phase = none :=
      namesGrant_eq_none (by rwa [activeSteps_heard]) (by rwa [heard_grant])
    rw [exec_phaseStart_of_step hb hlive hphase hcurrent,
      progress_of_not_names (by rw [namesGrant_stepped]; exact hnone), raiseIf]
    by_cases hexpected : (junctionAt s j).currentStep = some k
        ∨ (junctionAt s j).currentStep.map (fun i => (i + 1) % (activeSteps (junctionAt s j)).length) = some k
    · rw [if_neg (by rw [decide_eq_true hexpected]; exact nofun), if_pos hexpected]; rfl
    · rw [if_pos (by rw [decide_eq_false hexpected]; rfl), if_neg hexpected]; rfl
  · have hnone : namesGrant (junctionAt (heard j s) j) .extend phase = none :=
      namesGrant_eq_none (by rwa [activeSteps_heard]) (by rwa [heard_grant])
    rw [exec_phaseEnd_of_step hb hlive hphase,
      progress_of_not_names (by rw [namesGrant_stepped]; exact hnone), raiseIf]
    by_cases hexpected : (junctionAt s j).currentStep = some k
    · rw [if_neg (by simp [hexpected]), if_pos hexpected]; rfl
    · rw [if_pos (by simp [hexpected]), if_neg hexpected]; rfl
  · have hnone' : stepOfPhase (junctionAt (heard j s) j) phase = none :=
      stepOfPhase_eq_none (by rwa [activeSteps_heard])
    rw [exec_phaseStart phase s hb, exec_phaseEnd phase s hb, phaseStart, phaseEnd]
    dsimp only
    rw [if_pos ((isLive_heard j s).trans hlive), if_pos ((isLive_heard j s).trans hlive), hnone']
    exact ⟨rfl, rfl⟩
  · have hdark' : ¬isLive (junctionAt (heard j s) j) = true := by rw [isLive_heard, hdark]; exact nofun
    rw [exec_phaseStart phase s hb, exec_phaseEnd phase s hb, phaseStart, phaseEnd]
    dsimp only
    rw [if_neg hdark', if_neg hdark']
    exact ⟨rfl, rfl⟩

/-! ### The end of a grant by a phase report (R119) -/

theorem recordAt_put (i : SlotId) (r : Record) (s : State) (k : SlotId) :
    recordAt (onSlot i (fun sl => { sl with record := some r }) s) k = if i = k then some r else recordAt s k := by
  unfold recordAt
  rw [slotAt_onSlot]
  split <;> rfl

theorem any_isRider (s : State) (j : JunctionId) (k : SlotId) : (recordAt s k).any (isRider j) = holdsRiderOf s j k := by
  unfold holdsRiderOf isRider
  simp only [Bool.decide_and]

/-- The riders of a junction stand in the same slots after a record that does not ride takes a state that is not RIDING. -/
theorem holdsRiderOf_put {s t : State} {i : SlotId} {r q : Record} (j : JunctionId) (hr : recordAt s i = some r)
    (hold : r.status ≠ .riding) (hq : q.status ≠ .riding)
    (ht : ∀ k, recordAt t k = if i = k then some q else recordAt s k) : holdsRiderOf t j = holdsRiderOf s j := by
  funext k
  unfold holdsRiderOf
  rw [ht]
  by_cases hk : i = k
  · subst hk
    rw [if_pos rfl, hr]
    simp [hold, hq]
  · rw [if_neg hk]

/-- A holder covered: its state is set, and it is enqueued (R116, R119). -/
theorem coverHolder_eq {i : SlotId} {r : Record} {s : State} (h : recordAt s i = some r) : coverHolder i s =
    { onSlot i (fun sl => { sl with record := some { r with status := .tracking .covered } }) s with
      evalQueue := queued s.evalQueue i } := by
  rw [coverHolder, onRecord_of_some _ h, enqueue_onSlot_record]

/-- An end after acceptance without a RELEASE covers the holder and enqueues it, then the riders (R116, R119). -/
theorem endAccepted_covered {s : State} {g : Grant} {r : Record} (now : Time) (j : JunctionId)
    (hr : recordAt s g.slot = some r) (hold : r.status ≠ .riding) :
    endAccepted now j g false none (coverHolder g.slot) s =
      { onJunction j (fun c => { c with lockout := s.policy.lockoutCycles, grant := none })
          (onSlot g.slot (fun sl => { sl with record := some { r with status := .tracking .covered } }) s) with
        evalQueue := queuedWhere (queued s.evalQueue g.slot) (holdsRiderOf s j) } := by
  unfold endAccepted clearGrant
  simp only [Bool.false_eq_true, if_false]
  have hlocked : recordAt (onJunction j (fun c => { c with lockout := s.policy.lockoutCycles }) s) g.slot = some r := hr
  rw [coverHolder_eq hlocked, enqueueWhere_eq]
  have hriders := holdsRiderOf_put (q := { r with status := .tracking .covered }) j hr hold nofun (recordAt_put g.slot _ s)
  simp only [any_isRider]
  refine (congrArg (fun p : SlotId → Bool => { onJunction j (fun c => { c with grant := none })
    (onSlot g.slot (fun sl => { sl with record := some { r with status := .tracking .covered } })
      (onJunction j (fun c => { c with lockout := s.policy.lockoutCycles }) s)) with
        evalQueue := queuedWhere (queued s.evalQueue g.slot) p }) hriders).trans ?_
  simp [onJunction, junctionAt, onSlot, slotAt]

/-- A covered end after a step has been set, and a notice perhaps raised. -/
theorem endAccepted_stepped {s : State} {g : Grant} {r : Record} (j : JunctionId) (k : Nat) (slip : Bool)
    (hr : recordAt s g.slot = some r) (hold : r.status ≠ .riding) :
    endAccepted s.time j g false none (coverHolder g.slot) (raiseIf slip .syncSlip (setStep s.time j k (heard j s))) =
      raiseIf slip .syncSlip
        { onJunction j (fun c =>
            { c with currentStep := some k, stepStart := some s.time, lockout := s.policy.lockoutCycles, grant := none })
            (onSlot g.slot (fun sl => { sl with record := some { r with status := .tracking .covered } }) (heard j s)) with
          evalQueue := queuedWhere (queued s.evalQueue g.slot) (holdsRiderOf s j) } := by
  have hslots : (raiseIf slip .syncSlip (setStep s.time j k (heard j s))).slots = s.slots := raiseIf_slots ..
  have hqueue : (raiseIf slip .syncSlip (setStep s.time j k (heard j s))).evalQueue = s.evalQueue := raiseIf_evalQueue ..
  have hpolicy : (raiseIf slip .syncSlip (setStep s.time j k (heard j s))).policy = s.policy := raiseIf_policy ..
  have hriders : holdsRiderOf (raiseIf slip .syncSlip (setStep s.time j k (heard j s))) j = holdsRiderOf s j :=
    funext fun i => by rw [holdsRiderOf, recordAt_congr hslots, holdsRiderOf]
  rw [endAccepted_covered s.time j ((recordAt_congr hslots _).trans hr) hold, hqueue, hpolicy, hriders]
  cases slip <;> simp [raiseIf, raise, onNotice, setStep, onJunction, junctionAt, onSlot, slotAt]

/-- Settles O18: the phase's report names the grant, and its end covers the holder. -/
theorem phaseReportsEndTheGrant : Obligations.PhaseReportsEndTheGrant := by
  intro b phase j s g r hb hlive hgrant hacc hr hold hphase hcurrent
  have hnames : ∀ (slip : Bool) (k : Nat),
      namesGrant (junctionAt (raiseIf slip .syncSlip (setStep s.time j k (heard j s))) j) g.kind phase = some g :=
    fun slip k => by
      rw [namesGrant_stepped, namesGrant_eq (k := g.step) (by rwa [activeSteps_heard]), heard_grant, hgrant]
      simp [hacc]
  refine ⟨fun hkind => ?_, fun hkind => ?_⟩
  · rw [exec_phaseStart_of_step hb hlive hphase hcurrent, progress_of_names (hkind ▸ hnames _ _),
      endAccepted_stepped j _ _ hr hold]
  · rw [exec_phaseEnd_of_step hb hlive hphase, progress_of_names (hkind ▸ hnames _ _),
      endAccepted_stepped j _ _ hr hold]

end Sys2Proof.Proofs

/-! Retirement, answers and the ends of a grant (O24, O25, O37, O38, O39, O40). -/

namespace Sys2Proof.Proofs

open Sys2Proof.Machine Sys2Proof.Safety Sys2Proof.Laws

/-! ### The RELEASE of a grant (R15, R118) -/

theorem isRelease_iff {k : DirectiveKind} : isRelease k = true ↔ k = .release := by
  cases k <;> simp [isRelease]

theorem isRelease_eq_false_iff {k : DirectiveKind} : isRelease k = false ↔ k ≠ .release := by
  cases k <;> simp [isRelease]

/-- The transmitter's choice does not look at the junctions. -/
theorem transmitNext_onJunction (now : Time) (j : JunctionId) (f : Junction → Junction) (s : State) :
    transmitNext now (onJunction j f s) = onJunction j f (transmitNext now s) := by
  by_cases hbusy : s.transmitter.isSome = true
  · rw [transmitNext_of_busy hbusy, transmitNext_of_busy (s := onJunction j f s) hbusy]
  · have hidle : s.transmitter = none := by simpa using hbusy
    cases hi : chosenEntry s.directives with
    | none => rw [transmitNext_of_none hi, transmitNext_of_none (s := onJunction j f s) hi]
    | some i =>
      cases hd : s.directives[i]? with
      | none =>
        unfold transmitNext
        simp only [onJunction_transmitter, onJunction_directives, hidle, hi, hd]
      | some d =>
        rw [transmitNext_of_idle hidle hi hd, transmitNext_of_idle (s := onJunction j f s) hidle hi hd]
        rfl

theorem queueDirective_onJunction (now : Time) (j : JunctionId) (f : Junction → Junction) (k : DirectiveKind) (tag : Byte)
    (s : State) : queueDirective now j k tag (onJunction j f s) = onJunction j f (queueDirective now j k tag s) :=
  transmitNext_onJunction now j f
    { s with directives := s.directives ++ [{ junction := j, kind := k, tag := tag, sending := false }] }

theorem queueRelease_of_set {j : JunctionId} {s : State} (now : Time) (tag : Byte)
    (h : (junctionAt s j).releaseQueued = true) : queueRelease now j tag s = { s with
      directives := s.directives.map fun d => if d.junction = j ∧ d.kind = .release then { d with tag := tag } else d } := by
  refine (if_pos h).trans ?_
  simp only [isRelease_iff]

theorem queueRelease_of_clear {j : JunctionId} {s : State} (now : Time) (tag : Byte)
    (h : (junctionAt s j).releaseQueued = false) : queueRelease now j tag s =
      onJunction j (fun c => { c with releaseQueued := true }) (queueDirective now j .release tag s) := by
  refine (if_neg (by rw [h]; exact nofun)).trans ?_
  exact queueDirective_onJunction now j _ .release tag s

/-- Only the release queued flag of the junction is touched by a RELEASE (R118). -/
theorem junctionAt_queueRelease (now : Time) (j : JunctionId) (tag : Byte) (s : State) (k : JunctionId) :
    junctionAt (queueRelease now j tag s) k
      = if j = k then { junctionAt s j with releaseQueued := true } else junctionAt s k := by
  cases h : (junctionAt s j).releaseQueued with
  | true =>
    rw [queueRelease_of_set now tag h]
    split
    · next hk =>
      subst hk
      rw [← h]
      rfl
    · rfl
  | false =>
    have hj : ∀ m, junctionAt (queueDirective now j .release tag s) m = junctionAt s m :=
      junctionAt_congr (queueDirective_junctions ..)
    rw [queueRelease_of_clear now tag h, junctionAt_onJunction]
    split
    · next hk => rw [hj, hk]
    · rw [hj]

theorem releaseJoins_queueRelease (now : Time) (j : JunctionId) (tag : Byte) (s : State) :
    ReleaseJoins now j tag s (queueRelease now j tag s) := by
  unfold ReleaseJoins
  cases h : (junctionAt s j).releaseQueued with
  | true =>
    rw [queueRelease_of_set now tag h, if_pos rfl]
    exact ⟨rfl, rfl⟩
  | false =>
    rw [queueRelease_of_clear now tag h, if_neg nofun]
    exact ⟨rfl, rfl⟩

/-- What a RELEASE changes of the adjustment, for a grant on a step of the plan (R15). -/
theorem releaseChange_eq (now : Time) {c : Junction} {g : Grant} (h : g.step < (activeSteps c).length) :
    releaseChange now c g = giveBack now c g := by
  unfold releaseChange giveBack
  cases g.kind with
  | advance => rfl
  | extend =>
    obtain ⟨st, hst⟩ : ∃ st, (activeSteps c)[g.step]? = some st := ⟨_, List.getElem?_eq_getElem h⟩
    rw [usedExtension, hst]
    cases c.currentStep with
    | none => simp
    | some k =>
      cases c.stepStart with
      | none => simp
      | some t =>
        dsimp only
        split
        · next hk =>
          subst hk
          rw [hst]
          dsimp only [Option.map_some, Option.getD_some]
          omega
        · simp

theorem releaseGrant_eq (now : Time) (j : JunctionId) {g : Grant} {s : State} {tag : Byte}
    (h : grantTagAt s g.slot = some tag) : releaseGrant now j g s =
      onJunction j (fun c => adjustBy (releaseChange now c g) c) (queueRelease now j tag s) := by
  rw [releaseGrant, h]

/-- The release queued flag and the adjustment of the junction are what a RELEASE of its grant changes of the junctions. -/
theorem junctionAt_releaseGrant (now : Time) (j : JunctionId) {g : Grant} {s : State} {tag : Byte}
    (htag : grantTagAt s g.slot = some tag) (hstep : g.step < (activeSteps (junctionAt s j)).length) (k : JunctionId) :
    junctionAt (releaseGrant now j g s) k = if j = k then
      { junctionAt s j with
        releaseQueued := true
        adjustment := adjusted (junctionAt s j).adjustment (giveBack now (junctionAt s j) g) } else junctionAt s k := by
  rw [releaseGrant_eq now j htag]
  by_cases hk : j = k
  · subst hk
    rw [junctionAt_onJunction_same, junctionAt_queueRelease, if_pos rfl, if_pos rfl, ← releaseChange_eq now hstep]
    rfl
  · rw [junctionAt_onJunction_ne hk, junctionAt_queueRelease, if_neg hk, if_neg hk]

theorem releaseJoins_releaseGrant (now : Time) (j : JunctionId) {g : Grant} {s : State} {tag : Byte}
    (htag : grantTagAt s g.slot = some tag) : ReleaseJoins now j tag s (releaseGrant now j g s) := by
  rw [releaseGrant_eq now j htag]
  exact releaseJoins_queueRelease now j tag s

/-! ### Retirement (R56, R117) -/

theorem onSlot_vacate {i : SlotId} {s : State} {r : Record} (h : recordAt s i = some r) :
    onSlot i vacate s = onSlot i vacated s := by
  have hrecord : (slotAt s i).record = some r := h
  unfold onSlot vacate vacated
  rw [hrecord]

/-- Settles O24: a record without a grant is vacated, a candidate after it has left its order. -/
theorem retirementVacatesTheSlot : Obligations.RetirementVacatesTheSlot := by
  intro now i o s r hr
  refine ⟨fun hcandidate htag => ?_, fun hcandidate => ?_⟩
  · have hretire : retire now i o s = onSlot i vacate (dequeue i s) := by
      unfold retire
      rw [hr]
      cases hstatus : r.status with
      | candidate => exact absurd hstatus hcandidate
      | granted tag => rw [hstatus] at htag; exact absurd htag nofun
      | pending | tracking reason | riding | held reason => simp only [hstatus]
    rw [hretire, onSlot_vacate (s := dequeue i s) hr]
    rfl
  · have hretire : retire now i o s =
        issueCheck now r.junction (onSlot i vacate (dequeue i (removeCandidate r.junction i s))) := by
      unfold retire
      rw [hr]
      simp only [hcandidate]
    rw [hretire, onSlot_vacate (s := dequeue i (removeCandidate r.junction i s)) hr]
    rfl

theorem retire_of_granted {i : SlotId} {s : State} {r : Record} {tag : Byte} (now : Time) (o : RetireOutcome)
    (hr : recordAt s i = some r) (hstatus : r.status = .granted tag) : retire now i o s =
      issueCheck now r.junction (onSlot i vacate (dequeue i (holderRetired now r.junction r.vehicle o s))) := by
  unfold retire
  rw [hr]
  simp only [hstatus]

theorem grantTagAt_of_granted {i : SlotId} {s : State} {r : Record} {tag : Byte}
    (hr : recordAt s i = some r) (hstatus : r.status = .granted tag) : grantTagAt s i = some tag := by
  rw [grantTagAt, hr, Option.map_some, hstatus]

/-- The junction context after steps 2, 3 and 6 of R116: the lockout, the last-served summary of a SERVED end, and no grant. -/
def endedContext (now : Time) (lockout : Nat) (g : Grant) (served : Option Half) (c : Junction) : Junction :=
  { c with
    lockout := lockout
    lastServed := (served.map fun v => { vehicle := v, kind := g.kind, amount := g.amount, arrival := now }).or c.lastServed
    grant := none }

/-- The end of an accepted grant with a RELEASE, the holder left to its retirement (R116). -/
theorem endAccepted_released (now : Time) (j : JunctionId) (g : Grant) (served : Option Half) (s : State) :
    endAccepted now j g true served id s =
      { onJunction j (endedContext now s.policy.lockoutCycles g served) (releaseGrant now j g s) with
        evalQueue := queuedWhere s.evalQueue (holdsRiderOf s j) } := by
  have hslots := releaseGrant_slots now j g s
  have hqueue := releaseGrant_evalQueue now j g s
  have hpolicy : (releaseGrant now j g s).policy = s.policy := congrArg Outside.policy (outside_releaseGrant now j g s)
  have hriders : ∀ i, (recordAt (releaseGrant now j g s) i).any (isRider j) = holdsRiderOf s j i := fun i => by
    rw [recordAt_congr hslots, any_isRider]
  unfold endAccepted clearGrant
  generalize releaseGrant now j g s = t at hqueue hpolicy hriders
  have hqueued : ∀ f : Junction → Junction, enqueueWhere (isRider j) (onJunction j f t) =
      { onJunction j f t with evalQueue := queuedWhere s.evalQueue (holdsRiderOf s j) } := fun f => by
    rw [enqueueWhere_eq, onJunction_evalQueue, hqueue]
    refine congrArg (fun p : SlotId → Bool => { onJunction j f t with evalQueue := queuedWhere s.evalQueue p })
      (funext fun i => ?_)
    rw [recordAt_onJunction_frame, hriders]
  cases served with
  | none =>
    simp only [if_true, id_eq, hqueued, hpolicy]
    exact onJunction_enqueued ..
  | some v =>
    simp only [if_true, id_eq, onJunction_onJunction, hqueued, hpolicy]
    exact onJunction_enqueued ..

theorem releaseJoins_congr {now : Time} {j : JunctionId} {tag : Byte} {s t u : State} (hd : u.directives = t.directives)
    (ht : u.transmitter = t.transmitter) (h : ReleaseJoins now j tag s t) : ReleaseJoins now j tag s u := by
  unfold ReleaseJoins at h ⊢
  rwa [hd, ht]

theorem filter_of_none {α : Type} {p : α → Bool} {l : List α} (h : ¬l.any p = true) : l.filter (fun x => !p x) = l := by
  rw [List.any_eq_true] at h
  push Not at h
  exact List.filter_eq_self.mpr fun x hx => by simpa using h x hx

/-- An end before acceptance (R121): the grant is gone, and an unsent directive with it. -/
theorem endOffered_eq (j : JunctionId) (s : State) : endOffered j s =
    onJunction j (fun c =>
      if s.directives.any (waitingEntry j isGrantKind) then
        { c with grant := none, outstanding := none, acceptDeadline := none }
      else { c with grant := none })
      { s with directives := s.directives.filter fun d => !waitingEntry j isGrantKind d } := by
  unfold endOffered clearGrant withdraw
  by_cases h : s.directives.any (waitingEntry j isGrantKind) = true
  · simp only [if_pos h]
    exact onJunction_onJunction ..
  · simp only [if_neg h, filter_of_none h]

/-- Settles O25: the end the retirement gives an accepted grant, and the end it gives an offered one. -/
theorem retiredHolderEndsItsGrant : Obligations.RetiredHolderEndsItsGrant := by
  intro now i o s r tag g hr hstatus hgrant hslot
  refine ⟨fun hacc hstep => ?_, fun hacc => ?_⟩
  · have htag : grantTagAt s g.slot = some tag := hslot ▸ grantTagAt_of_granted hr hstatus
    have hended : holderRetired now r.junction r.vehicle o s =
        endAccepted now r.junction g true (if o = .served then some r.vehicle else none) id s := by
      rw [holderRetired, hgrant]
      exact if_pos hacc
    rw [retire_of_granted now o hr hstatus, hended, endAccepted_released]
    have hslots := releaseGrant_slots now r.junction g s
    have hnotices := releaseGrant_notices now r.junction g s
    have houtside := outside_releaseGrant now r.junction g s
    have hjoins := releaseJoins_releaseGrant now r.junction htag
    have hjunctions := junctionAt_releaseGrant now r.junction htag hstep
    generalize releaseGrant now r.junction g s = t at hslots hnotices houtside hjoins hjunctions
    refine ⟨_, rfl, ?_, fun k hk => ?_, ?_, fun k hk => ?_, rfl, releaseJoins_congr rfl rfl hjoins, hnotices, houtside⟩
    · rw [junctionAt_onSlot_frame, junctionAt_dequeue]
      change junctionAt (onJunction r.junction (endedContext _ _ _ _) t) r.junction = _
      rw [junctionAt_onJunction_same, hjunctions, if_pos rfl]
      cases o <;> rfl
    · rw [junctionAt_onSlot_frame, junctionAt_dequeue]
      change junctionAt (onJunction r.junction (endedContext _ _ _ _) t) k = _
      rw [junctionAt_onJunction_ne (Ne.symm hk), hjunctions, if_neg (Ne.symm hk)]
    · rw [slotAt_onSlot, if_pos rfl, slotAt_dequeue]
      refine (congrArg vacate (slotAt_congr hslots i)).trans ?_
      have hrecord : (slotAt s i).record = some r := hr
      rw [vacate, hrecord, vacated]
    · rw [slotAt_onSlot, if_neg (Ne.symm hk), slotAt_dequeue]
      exact slotAt_congr hslots k
  · have hended : holderRetired now r.junction r.vehicle o s = endOffered r.junction s := by
      rw [holderRetired, hgrant]
      exact if_neg (by rw [hacc]; exact nofun)
    rw [retire_of_granted now o hr hstatus, hended, endOffered_eq,
      onSlot_vacate (r := r) ((recordAt_congr (by simp) i).trans hr)]
    rfl

/-! ### Answers (R110, R131, R132) -/

section

variable {s t : State} {j : JunctionId} {tag : Byte} {kind : OutstandingKind}

theorem grantTagAt_congr (h : t.slots = s.slots) (i : SlotId) : grantTagAt t i = grantTagAt s i := by
  rw [grantTagAt, recordAt_congr h, grantTagAt]

theorem currentTag_heard : currentTag (heard j s) j = currentTag s j := by
  unfold currentTag
  rw [heard_grant]
  rfl

theorem matchAnswer_heard : matchAnswer (heard j s) j tag = matchAnswer s j tag := by
  unfold matchAnswer
  rw [heard_outstanding, heard_grant, currentTag_heard]

theorem matchAnswer_of_other (h : ∀ o ∈ (junctionAt s j).outstanding, o.tag ≠ tag) : matchAnswer s j tag = .other := by
  unfold matchAnswer
  cases ho : (junctionAt s j).outstanding with
  | none => rfl
  | some o => exact if_neg (h o ho)

theorem matchAnswer_of_trim {n : Int} (h : (junctionAt s j).outstanding = some { kind := .trim n, tag := tag }) :
    matchAnswer s j tag = .trim n := by
  unfold matchAnswer
  rw [h]
  exact if_pos rfl

theorem matchAnswer_of_current {g : Grant} (h : (junctionAt s j).outstanding = some { kind := kind, tag := tag })
    (hkind : ∀ n, kind ≠ .trim n) (hg : (junctionAt s j).grant = some g) (htag : currentTag s j = some tag) :
    matchAnswer s j tag = .current g := by
  unfold matchAnswer
  rw [h, hg]
  cases kind with
  | trim n => exact absurd rfl (hkind n)
  | extend | advance => simp [htag]

theorem matchAnswer_of_late (h : (junctionAt s j).outstanding = some { kind := kind, tag := tag })
    (hkind : ∀ n, kind ≠ .trim n) (htag : currentTag s j ≠ some tag) : matchAnswer s j tag = .outstanding := by
  unfold matchAnswer
  rw [h]
  cases kind with
  | trim n => exact absurd rfl (hkind n)
  | extend | advance => cases (junctionAt s j).grant <;> simp [htag]

theorem currentTag_of_grant {g : Grant} (hg : (junctionAt s j).grant = some g) (hacc : g.accepted = false)
    (htag : grantTagAt s g.slot = some tag) : currentTag s j = some tag := by
  unfold currentTag
  rw [hg]
  exact (if_neg (by rw [hacc]; exact nofun)).trans htag

variable {b : Byte}

theorem exec_accept (h : junctionOf b = some j) :
    exec (.accept b tag) s = .next (acceptAnswer s.time j tag (heard j s)) :=
  congrArg Host.Outcome.next (deliverJunction_eq (.accept b tag) j s h)

theorem exec_decline (reason : Byte) (h : junctionOf b = some j) :
    exec (.decline b tag reason) s = .next (declineAnswer s.time j tag (heard j s)) :=
  congrArg Host.Outcome.next (deliverJunction_eq (.decline b tag reason) j s h)

theorem exec_acceptDeadlineExpiry {d : Time} (hd : (junctionAt s j).acceptDeadline = some d)
    (hreached : 0 ≤ timeDiff s.time d) : exec (.acceptDeadlineExpiry j) s = .next (answerTimeout d j s) := by
  simp only [exec, execAcceptDeadlineExpiry, due_of_reached hd hreached]

end

/-- Settles O40: R110's first row. -/
theorem trimAnswersEndTheTrim : Obligations.TrimAnswersEndTheTrim := by
  intro b tag reason j s n hb ho
  have hmatch := matchAnswer_of_trim ho
  refine ⟨?_, ?_, fun d hd hreached => ?_⟩
  · rw [exec_accept hb, acceptAnswer, matchAnswer_heard, hmatch]
    rfl
  · rw [exec_decline reason hb, declineAnswer, matchAnswer_heard, hmatch]
    rfl
  · rw [exec_acceptDeadlineExpiry hd hreached, answerTimeout, ho]
    dsimp only
    rw [hmatch]
    rfl

/-- Settles O39: R110's third and fourth rows, and R114's table. -/
theorem lateAnswersAreReleased : Obligations.LateAnswersAreReleased := by
  intro b tag reason j s hb htag
  refine ⟨fun kind ho hkind => ?_, fun hother => ?_⟩
  · have hmatch := matchAnswer_of_late ho hkind htag
    refine ⟨?_, ?_, fun d hd hreached => ?_⟩
    · rw [exec_accept hb, acceptAnswer, matchAnswer_heard, hmatch]
      rfl
    · rw [exec_decline reason hb, declineAnswer, matchAnswer_heard, hmatch]
      rfl
    · rw [exec_acceptDeadlineExpiry hd hreached, answerTimeout, ho]
      dsimp only
      rw [hmatch]
      rfl
  · have hmatch := matchAnswer_of_other hother
    refine ⟨?_, ?_⟩
    · rw [exec_decline reason hb, declineAnswer, matchAnswer_heard, hmatch]
    · have hrepeats : repeatsAccept (heard j s) j tag =
          (junctionAt s j).grant.any fun g => g.accepted && decide (grantTagAt s g.slot = some tag) := by
        unfold repeatsAccept
        rw [heard_grant]
        cases (junctionAt s j).grant <;> rfl
      rw [exec_accept hb, acceptAnswer, matchAnswer_heard, hmatch]
      dsimp only
      rw [hrepeats]

theorem outstandingOf_ne_trim (k : GrantKind) (n : Int) : outstandingOf k ≠ .trim n := by cases k <;> exact nofun

theorem isSome_of_grantTagAt {s : State} {i : SlotId} {tag : Byte} (h : grantTagAt s i = some tag) :
    (recordAt s i).isSome = true := by
  unfold grantTagAt at h
  cases hr : recordAt s i with
  | none => rw [hr] at h; exact absurd h nofun
  | some r => rfl

/-- Settles O37: R110's second row, and R111. -/
theorem acceptStartsTheGrant : Obligations.AcceptStartsTheGrant := by
  intro b tag j s g kind hb hg hacc htag ho hkind
  have hmatch : matchAnswer s j tag = .current g :=
    matchAnswer_of_current ho (hkind ▸ outstandingOf_ne_trim g.kind) hg (currentTag_of_grant hg hacc htag)
  refine ⟨?_, ?_⟩
  · rw [exec_accept hb, acceptAnswer, matchAnswer_heard, hmatch]
    dsimp only
    rw [acceptGrant_eq s.time j g (heard j s) (isSome_of_grantTagAt (tag := tag) htag)]
    have hmapped : ∀ r, mappedTo (junctionAt (heard j s) j) j g.step r
        = (decide (r.junction = j) && decide (priorityOf (junctionAt s j) r.approach = some g.step)) := fun r => by
      rw [mappedTo, priorityOf, approachOf, heard_activePlan]
      rfl
    have hchange : acceptChange g = if g.kind = .extend then (g.amount : Int) else -(g.amount : Int) := by
      unfold acceptChange
      cases g.kind <;> rfl
    rw [hchange]
    simp only [funext hmapped]
    rfl
  · rw [junctionAt_onJunction_same, modeOf]
    cases g.kind <;> rfl

/-! ### A holder handed back (R112, R113, R122) -/

theorem insertSorted_congr {s t : State} (h : t.slots = s.slots) (i : SlotId) (l : List SlotId) :
    insertSorted t i l = insertSorted s i l := by
  have hranks : ∀ x y, ranksBefore t x y = ranksBefore s x y := fun x y => by
    unfold ranksBefore
    rw [recordAt_congr h, recordAt_congr h]
  induction l with
  | nil => rfl
  | cons y l ih => rw [insertSorted, insertSorted, hranks, ih]

theorem decidesGrant_eq (r : Record) : ((r.decision.map Decision.kind).bind grantOf).isSome = decidesGrant r := by
  unfold decidesGrant
  cases r.decision with
  | none => rfl
  | some d => cases hd : d.kind <;> simp [hd, grantOf]

theorem handedBackState_eq (r : Record) : handedBackState r =
    if decidesGrant r = true then .candidate else .tracking (handBackReason r.decision) := by
  unfold handedBackState decidesGrant handBackReason
  cases r.decision with
  | none => rfl
  | some d => cases hd : d.kind <;> simp [hd]

/-- A record as a hand-back leaves it (R112). -/
def handedBackRecord (r : Record) : Record := { r with status := handedBackState r, refreshWanted := true }

theorem withHolder_of_decides {r : Record} (s : State) (i : SlotId) (h : decidesGrant r = true) : withHolder s i r =
    fun c => { c with candidates := insertSorted s i c.candidates, changeCount := c.changeCount + 1 } :=
  funext fun _ => if_pos h

theorem withHolder_of_not_decides {r : Record} (s : State) (i : SlotId) (h : ¬decidesGrant r = true) :
    withHolder s i r = fun c => c :=
  funext fun _ => if_neg h

/-- A hand-back places the holder in its slot and in its junction's order (R112, R122). -/
theorem returnHolder_eq (j : JunctionId) {i : SlotId} {s : State} {r : Record} (hr : recordAt s i = some r) :
    returnHolder j i s =
      onJunction j (withHolder (onSlot i (fun sl => { sl with record := some (handedBackRecord r) }) s) i r)
        (onSlot i (fun sl => { sl with record := some (handedBackRecord r) }) s) := by
  unfold returnHolder
  rw [hr]
  dsimp only
  rw [decidesGrant_eq]
  by_cases hdec : decidesGrant r = true
  · have hback : handedBackRecord r = { r with status := .candidate, refreshWanted := true } := by
      rw [handedBackRecord, handedBackState_eq, if_pos hdec]
    rw [if_pos hdec, onRecord_of_some _ hr, ← hback, withHolder_of_decides _ _ hdec]
    rfl
  · have hback : handedBackRecord r =
        { r with status := .tracking (handBackReason r.decision), refreshWanted := true } := by
      rw [handedBackRecord, handedBackState_eq, if_neg hdec]
    rw [if_neg hdec, onRecord_of_some _ hr, ← hback, withHolder_of_not_decides _ _ hdec,
      onJunction_id]

theorem withHolder_congr {s t : State} (h : t.slots = s.slots) (i : SlotId) (r : Record) (c : Junction) :
    withHolder t i r c = withHolder s i r c := by
  unfold withHolder
  rw [insertSorted_congr h]

/-- The steps of a hand-back, the holder's record being known (R112, R113). -/
theorem handBack_eq (n : Category) {j : JunctionId} {g : Grant} {r : Record} {s : State} (hr : recordAt s g.slot = some r) :
    handBack j g n s = raise n (clearOutstanding j
      { onJunction j (withHolder (onSlot g.slot (fun sl => { sl with record := some (handedBackRecord r) }) s) g.slot r)
          (onSlot g.slot (fun sl => { sl with record := some (handedBackRecord r) })
            (clearGrant j (dropWaiting j isGrantKind s))) with
        evalQueue := queued s.evalQueue g.slot }) := by
  have hr' : recordAt (clearGrant j (dropWaiting j isGrantKind s)) g.slot = some r :=
    (recordAt_congr (by simp) _).trans hr
  have hsome : (recordAt (returnHolder j g.slot (clearGrant j (dropWaiting j isGrantKind s))) g.slot).isSome = true := by
    rw [returnHolder_eq j hr', recordAt_onJunction_frame, recordAt_put, if_pos rfl]
    rfl
  unfold handBack
  rw [enqueue_eq _ _ hsome, returnHolder_eq j hr', onJunction_evalQueue, onSlot_evalQueue, clearGrant_evalQueue]
  have hplaced := fun c => withHolder_congr (t := onSlot g.slot (fun sl => { sl with record := some (handedBackRecord r) })
    (clearGrant j (dropWaiting j isGrantKind s)))
    (s := onSlot g.slot (fun sl => { sl with record := some (handedBackRecord r) }) s) rfl g.slot r c
  rw [funext hplaced]
  rfl

theorem handedBack_handBack (n : Category) {j : JunctionId} {g : Grant} {r : Record} {s : State}
    (hr : recordAt s g.slot = some r) : HandedBack j g r n s (handBack j g n s) := by
  rw [handBack_eq n hr]
  unfold clearOutstanding
  refine ⟨?_, fun k hk => ?_, ?_, fun k hk => ?_, rfl, rfl, rfl, rfl, rfl⟩
  · refine Eq.trans ?_
      (withHolder_congr (s := onSlot g.slot (fun sl => { sl with record := some (handedBackRecord r) }) s) (by rfl) ..).symm
    rw [junctionAt_raise, junctionAt_onJunction_same]
    change ({ junctionAt (onJunction j (withHolder _ _ _) (onSlot _ _ (onJunction j _ (dropWaiting j isGrantKind s)))) j with
      outstanding := none, acceptDeadline := none } : Junction) = _
    rw [junctionAt_onJunction_same, junctionAt_onSlot_frame, junctionAt_onJunction_same, junctionAt_dropWaiting]
    unfold withHolder
    split <;> rfl
  · rw [junctionAt_raise, junctionAt_onJunction_ne (Ne.symm hk)]
    change junctionAt (onJunction j (withHolder _ _ _) (onSlot _ _ (onJunction j _ (dropWaiting j isGrantKind s)))) k = _
    rw [junctionAt_onJunction_ne (Ne.symm hk), junctionAt_onSlot_frame, junctionAt_onJunction_ne (Ne.symm hk),
      junctionAt_dropWaiting]
  · refine (slotAt_onSlot g.slot g.slot (fun sl => { sl with record := some (handedBackRecord r) }) s).trans ?_
    rw [if_pos rfl]
    rfl
  · refine (slotAt_onSlot g.slot k (fun sl => { sl with record := some (handedBackRecord r) }) s).trans ?_
    rw [if_neg (Ne.symm hk)]

/-- Settles O38: R112 and R113 by the hand-back, and the deadlines that are not due. -/
theorem declineOrTimeoutHandsTheGrantBack : Obligations.DeclineOrTimeoutHandsTheGrantBack := by
  refine ⟨fun b tag reason j s g r kind hb hg hacc hr hstatus ho hkind => ?_, fun j s => ⟨fun h => ?_, fun d hd hreached ho => ?_⟩⟩
  · have hmatch : matchAnswer s j tag = .current g :=
      matchAnswer_of_current ho (hkind ▸ outstandingOf_ne_trim g.kind) hg
        (currentTag_of_grant hg hacc (grantTagAt_of_granted hr hstatus))
    refine ⟨⟨handBack j g .declined (heard j s), ?_, handedBack_handBack .declined hr⟩,
      fun d hd hreached => ⟨handBack j g .offerTimeout s, ?_, handedBack_handBack .offerTimeout hr⟩⟩
    · rw [exec_decline reason hb, declineAnswer, matchAnswer_heard, hmatch]
    · rw [exec_acceptDeadlineExpiry hd hreached, answerTimeout, ho]
      dsimp only
      rw [hmatch]
  · simp only [exec, execAcceptDeadlineExpiry, due_eq_none s.time _ h]
  · rw [exec_acceptDeadlineExpiry hd hreached, answerTimeout, ho]
    dsimp only
    rw [clearOutstanding, onJunction_congr (g := fun c => { c with acceptDeadline := none }) (by rw [← ho])]

end Sys2Proof.Proofs

/-! The adoption of a staged plan (O16). -/

namespace Sys2Proof.Proofs

open Sys2Proof.Machine Sys2Proof.Safety Sys2Proof.Laws

/-! ### Records changed in place -/

/-- Every record of a state is changed in its slot by a function of the slot, and the generations stay. -/
def Recast (F : SlotId → Record → Record) (s t : State) : Prop :=
  ∀ i, slotAt t i = { slotAt s i with record := (recordAt s i).map (F i) }

section

variable {F G : SlotId → Record → Record} {s t u : State}

theorem Recast.recordAt (h : Recast F s t) (i : SlotId) : recordAt t i = (Machine.recordAt s i).map (F i) :=
  congrArg Slot.record (h i)

theorem Recast.generation (h : Recast F s t) (i : SlotId) : (slotAt t i).generation = (slotAt s i).generation :=
  (congrArg Slot.generation (h i) :)

theorem Recast.of_slots (h : t.slots = s.slots) : Recast (fun _ r => r) s t := fun i => by
  rw [slotAt_congr h, Machine.recordAt, Option.map_id']

theorem Recast.trans (h : Recast F s t) (h' : Recast G t u) : Recast (fun i r => G i (F i r)) s u := fun i => by
  rw [h' i, h i, Recast.recordAt h, Option.map_map]
  rfl

theorem Recast.congr (h : Recast F s t) (hF : ∀ i r, Machine.recordAt s i = some r → F i r = G i r) : Recast G s t :=
  fun i => by
    rw [h i]
    cases hr : Machine.recordAt s i with
    | none => rfl
    | some r => rw [Option.map_some, Option.map_some, hF i r hr]

/-- The order of candidates looks at a record's score and check-in time alone (R85). -/
theorem Recast.insertSorted (h : Recast F s t)
    (hF : ∀ i r, (F i r).score = r.score ∧ (F i r).checkInTime = r.checkInTime) (i : SlotId) (l : List SlotId) :
    insertSorted t i l = Machine.insertSorted s i l := by
  have hranks : ∀ x y, ranksBefore t x y = ranksBefore s x y := fun x y => by
    unfold ranksBefore
    rw [Recast.recordAt h, Recast.recordAt h]
    cases Machine.recordAt s x with
    | none => rfl
    | some a =>
      cases Machine.recordAt s y with
      | none => rfl
      | some b => simp only [Option.map_some, (hF x a).1, (hF x a).2, (hF y b).1, (hF y b).2]
  induction l with
  | nil => rfl
  | cons y l ih => rw [Machine.insertSorted, Machine.insertSorted, hranks, ih]

end

theorem recast_onRecord (i : SlotId) (f : Record → Record) (s : State) :
    Recast (fun k r => if i = k then f r else r) s (onRecord i f s) := fun k => by
  rw [slotAt_onRecord]
  by_cases hk : i = k
  · simp only [if_pos hk]
    rfl
  · simp only [if_neg hk, Option.map_id']
    rfl

/-- A record marked as wanting a refresh. -/
def marked (r : Record) : Record := { r with refreshWanted := true }

theorem recast_markAll (l : List SlotId) (s : State) :
    Recast (fun k r => if k ∈ l then marked r else r) s (l.foldl (fun t i => onRecord i marked t) s) := by
  induction l generalizing s with
  | nil => exact .of_slots rfl
  | cons i l ih =>
    refine ((recast_onRecord i marked s).trans (ih (onRecord i marked s))).congr fun k r _ => ?_
    by_cases hk : i = k
    · subst hk
      simp only [if_true, List.mem_cons_self]
      split <;> rfl
    · simp only [if_neg hk, List.mem_cons, Ne.symm (a := i) hk, false_or]

/-! ### The steps of an adoption -/

/-- A record of the junction whose evaluation is in flight is marked as changed (R11). -/
def flown (s : State) (j : JunctionId) (i : SlotId) (r : Record) : Record :=
  { r with changedInFlight := r.changedInFlight || (decide (r.junction = j) && inFlight s i) }

theorem recast_markFlight (j : JunctionId) (s : State) : Recast (flown s j) s (markFlight j s) := by
  have hstill : (∀ i, inFlight s i = false) → Recast (flown s j) s s := fun h =>
    (Recast.of_slots rfl).congr fun i r _ => by simp [flown, h]
  unfold markFlight
  cases hf : s.flight with
  | none => exact hstill fun i => by simp [inFlight, hf]
  | some f =>
    dsimp only
    split
    · next hflying =>
      refine (recast_onRecord f.slot _ s).congr fun i r _ => ?_
      by_cases hi : f.slot = i
      · subst hi
        rw [if_pos rfl, flown, hflying, Bool.and_true]
        by_cases hj : r.junction = j <;> simp [ofJunction, hj]
      · have hnot : inFlight s i = false := by simp [inFlight, hf, hi]
        rw [if_neg hi, flown, hnot, Bool.and_false, Bool.or_false]
    · next hnot =>
      refine hstill fun i => ?_
      by_cases hi : f.slot = i
      · subst hi
        simpa using hnot
      · simp [inFlight, hf, hi]

theorem markFlight_eq (j : JunctionId) (s : State) : ∃ v, markFlight j s = { s with slots := v } := by
  unfold markFlight
  split
  · split
    · exact ⟨_, rfl⟩
    · exact ⟨s.slots, rfl⟩
  · exact ⟨s.slots, rfl⟩

theorem markAll_eq (l : List SlotId) (s : State) : ∃ v, l.foldl (fun t i => onRecord i marked t) s = { s with slots := v } := by
  induction l generalizing s with
  | nil => exact ⟨s.slots, rfl⟩
  | cons i l ih =>
    obtain ⟨v, hv⟩ := ih (onRecord i marked s)
    exact ⟨v, hv⟩

/-- An unsent directive withdrawn (R121, R134). -/
def withdrawnContext (unsent : Bool) (c : Junction) : Junction :=
  if unsent then { c with outstanding := none, acceptDeadline := none } else c

theorem withdraw_eq (j : JunctionId) (p : DirectiveKind → Bool) (s : State) : withdraw j p s =
    onJunction j (withdrawnContext (s.directives.any (waitingEntry j p)))
      { s with directives := s.directives.filter fun d => !waitingEntry j p d } := by
  unfold withdraw
  by_cases h : s.directives.any (waitingEntry j p) = true
  · rw [if_pos h, h]
    rfl
  · rw [if_neg h, filter_of_none h, Bool.not_eq_true _ |>.mp h]
    exact (onJunction_id j s).symm

theorem grantTagAt_eq {s : State} {i : SlotId} {r : Record} (h : recordAt s i = some r) : grantTagAt s i = tagOf r.status := by
  rw [grantTagAt, h, Option.map_some]
  cases r.status <;> rfl

/-- A record as an adoption at a LIVE junction leaves it (R11, R122). -/
def adoptedRecord (s : State) (j : JunctionId) (i : SlotId) (r : Record) : Record :=
  { r with
    changedInFlight := r.changedInFlight || (decide (r.junction = j) && inFlight s i)
    refreshWanted := r.refreshWanted
      || decide (r.junction = j ∧ (r.status = .candidate ∨ (grantTagAt s i).isSome = true))
    status := if r.junction = j ∧ (grantTagAt s i).isSome = true then handedBackState r else r.status }

/-- A record that neither seeks nor holds a grant of the junction is changed by nothing but its flight. -/
theorem adoptedRecord_of_idle {s : State} {j : JunctionId} {i : SlotId} {r : Record}
    (h : r.junction = j → r.status ≠ .candidate ∧ grantTagAt s i = none) : adoptedRecord s j i r = flown s j i r := by
  have hnone : ¬(r.junction = j ∧ (r.status = .candidate ∨ (grantTagAt s i).isSome = true)) := by
    rintro ⟨hj, hc | hg⟩
    · exact (h hj).1 hc
    · rw [(h hj).2] at hg; exact absurd hg nofun
  have hheld : ¬(r.junction = j ∧ (grantTagAt s i).isSome = true) := fun ⟨hj, hg⟩ => hnone ⟨hj, .inr hg⟩
  rw [adoptedRecord, decide_eq_false hnone, if_neg hheld, Bool.or_false]
  rfl

theorem adoptedRecord_of_candidate {s : State} {j : JunctionId} {i : SlotId} {r : Record} (hr : recordAt s i = some r)
    (hj : r.junction = j) (hc : r.status = .candidate) : adoptedRecord s j i r = marked (flown s j i r) := by
  have htag : grantTagAt s i = none := by rw [grantTagAt_eq hr, hc]; rfl
  have hseeks : r.junction = j ∧ (r.status = .candidate ∨ (grantTagAt s i).isSome = true) := ⟨hj, .inl hc⟩
  rw [adoptedRecord, decide_eq_true hseeks, if_neg (by rw [htag]; exact fun h => nomatch h.2), Bool.or_true]
  rfl

theorem adoptedRecord_of_holder {s : State} {j : JunctionId} {i : SlotId} {r : Record} {tag : Byte}
    (hj : r.junction = j) (htag : grantTagAt s i = some tag) :
    adoptedRecord s j i r = handedBackRecord (flown s j i r) := by
  have hsome : (grantTagAt s i).isSome = true := by rw [htag]; rfl
  have hseeks : r.junction = j ∧ (r.status = .candidate ∨ (grantTagAt s i).isSome = true) := ⟨hj, .inr hsome⟩
  rw [adoptedRecord, decide_eq_true hseeks, if_pos ⟨hj, hsome⟩, Bool.or_true]
  rfl

theorem marked_handedBack (r : Record) : marked (handedBackRecord r) = handedBackRecord r := rfl

section

variable {s : State} {j : JunctionId} (hT : TableConsistent s)

include hT

theorem mem_order_iff {i : SlotId} {r : Record} (hr : recordAt s i = some r) :
    i ∈ (junctionAt s j).candidates ↔ r.junction = j ∧ r.status = .candidate := by
  rw [(hT.2.1.1 j).2 i, hr]
  simp

/-- The holder of the junction's grant is the record of the junction that has a tag (R104). -/
theorem holder_iff {i : SlotId} {r : Record} (hr : recordAt s i = some r) :
    (r.junction = j ∧ grantTagAt s i ≠ none) ↔ ∃ g, (junctionAt s j).grant = some g ∧ g.slot = i := by
  obtain ⟨-, -, ⟨hholder, hheld⟩, -⟩ := hT
  rw [grantTagAt_eq hr]
  constructor
  · rintro ⟨rfl, htag⟩
    obtain ⟨tag, htag'⟩ := Option.ne_none_iff_exists'.mp htag
    exact hheld i r hr tag htag'
  · rintro ⟨g, hg, rfl⟩
    obtain ⟨q, hq, hj, -, tag, htag, -⟩ := hholder j g hg
    obtain rfl := Option.some.inj (hr.symm.trans hq)
    exact ⟨hj, by rw [htag]; exact nofun⟩

/-- At a DARK junction an adoption marks the record in flight and nothing else (R11, R122). -/
theorem recast_adopted_dark (hdark : isLive (junctionAt s j) = false) : Recast (adoptedRecord s j) s (markFlight j s) := by
  refine (recast_markFlight j s).congr fun i r hr => (adoptedRecord_of_idle fun hj => ?_).symm
  have hidle := (seeksGrant_eq_false_iff r).mp ((hT.2.2.2.1 j hdark).2.2 i r hr hj)
  refine ⟨fun hc => hidle (.inl hc), ?_⟩
  rw [grantTagAt_eq hr]
  exact Option.not_isSome_iff_eq_none.mp fun htag => hidle (.inr (.inl htag))

/-- A candidate's place in an order has no part in what an adoption leaves of a record that is not of the junction's. -/
theorem adoptedRecord_eq_of_not_holder {i : SlotId} {r : Record} (hr : recordAt s i = some r)
    (hnot : ∀ g, (junctionAt s j).grant = some g → g.slot ≠ i) :
    adoptedRecord s j i r = if i ∈ (junctionAt s j).candidates then marked (flown s j i r) else flown s j i r := by
  have hfree : r.junction = j → grantTagAt s i = none := fun hj => by
    by_contra htag
    obtain ⟨g, hg, hi⟩ := (holder_iff hT hr).mp ⟨hj, htag⟩
    exact hnot g hg hi
  split
  · next hmem =>
    obtain ⟨hj, hc⟩ := (mem_order_iff hT hr).mp hmem
    exact adoptedRecord_of_candidate hr hj hc
  · next hmem =>
    exact adoptedRecord_of_idle fun hj => ⟨fun hc => hmem ((mem_order_iff hT hr).mpr ⟨hj, hc⟩), hfree hj⟩

/-- At a LIVE junction without a grant an adoption marks every candidate (R122). -/
theorem recast_adopted_free {t : State} (hg : (junctionAt s j).grant = none) (ht : Recast (flown s j) s t) :
    Recast (adoptedRecord s j) s ((junctionAt s j).candidates.foldl (fun t i => onRecord i marked t) t) :=
  (ht.trans (recast_markAll _ t)).congr fun _ _ hr =>
    (adoptedRecord_eq_of_not_holder hT hr fun _ hg' => absurd (hg.symm.trans hg') nofun).symm

/-- At one with a grant its holder is handed back first (R112, R122). -/
theorem recast_adopted_held {t u : State} {g : Grant} {r : Record} {l : List SlotId} (hg : (junctionAt s j).grant = some g)
    (hr : recordAt s g.slot = some r) (hl : ∀ i, i ≠ g.slot → (i ∈ l ↔ i ∈ (junctionAt s j).candidates))
    (ht : Recast (flown s j) s t)
    (hu : u.slots = (onSlot g.slot (fun sl => { sl with record := some (handedBackRecord (flown s j g.slot r)) }) t).slots) :
    Recast (adoptedRecord s j) s (l.foldl (fun t i => onRecord i marked t) u) := by
  have hback : Recast (fun k q => if g.slot = k then handedBackRecord q else q) t u := by
    rw [← onRecord_of_some handedBackRecord (r := flown s j g.slot r) (by rw [ht.recordAt, hr, Option.map_some])] at hu
    exact (recast_onRecord g.slot handedBackRecord t).trans (.of_slots hu)
  refine ((ht.trans hback).trans (recast_markAll l _)).congr fun i q hq => ?_
  by_cases hi : g.slot = i
  · subst hi
    obtain ⟨hj, htag⟩ := (holder_iff hT hq).mpr ⟨g, hg, rfl⟩
    obtain ⟨tag, htag⟩ := Option.ne_none_iff_exists'.mp htag
    rw [adoptedRecord_of_holder hj htag]
    simp only [if_true, marked_handedBack, ite_self]
  · have hnot : ∀ g', (junctionAt s j).grant = some g' → g'.slot ≠ i := fun g' hg' => by
      obtain rfl := Option.some.inj (hg.symm.trans hg')
      exact hi
    rw [adoptedRecord_eq_of_not_holder hT hq hnot]
    simp only [if_neg hi, hl i (Ne.symm hi)]

end

/-! ### The state of an adoption -/

/-- A directive of a junction that is not a RELEASE waits in the queue. -/
abbrev unsentOf (j : JunctionId) : Directive → Bool := waitingEntry j fun k => !isRelease k

/-- The steps of an adoption before the plan is set and the report is handled under R12 (R11, R122, R134). -/
def adoptionState (j : JunctionId) (s : State) : State :=
  if isLive (junctionAt s j) then
    markCandidates j (endForAdoption j (withdraw j (fun k => !isRelease k) (markFlight j s)))
  else markFlight j s

theorem adoptPlan_eq (now : Time) (j : JunctionId) (count : Byte) (p : Plan) (s : State) : adoptPlan now j count p s =
    tryEnterLive now j count
      (onJunction j (fun c => { c with activePlan := some p, stagedPlan := none }) (adoptionState j s)) := rfl

theorem markCandidates_eq (j : JunctionId) (s : State) :
    markCandidates j s = (junctionAt s j).candidates.foldl (fun t i => onRecord i marked t) s := rfl

/-- A state with another request table, and the directives an adoption leaves. -/
def withTable (s : State) (v : Vector Slot 96) (q : List Directive) : State := { s with slots := v, directives := q }

theorem junctionAt_withTable (s : State) (v : Vector Slot 96) (q : List Directive) (k : JunctionId) :
    junctionAt (withTable s v q) k = junctionAt s k := rfl

theorem withdrawnContext_grant (b : Bool) (c : Junction) : (withdrawnContext b c).grant = c.grant := by cases b <;> rfl

theorem withdrawnContext_candidates (b : Bool) (c : Junction) : (withdrawnContext b c).candidates = c.candidates := by
  cases b <;> rfl

theorem mem_withHolder {s : State} {i k : SlotId} {r : Record} {c : Junction} (h : k ≠ i) :
    k ∈ (withHolder s i r c).candidates ↔ k ∈ c.candidates := by
  unfold withHolder
  split
  · rw [(insertSorted_perm s i c.candidates).mem_iff, List.mem_cons]
    exact or_iff_right h
  · rfl

theorem withHolder_flown (s u : State) (j : JunctionId) (i : SlotId) (r : Record) :
    withHolder u i (flown s j i r) = withHolder u i r := rfl

theorem withdrawnContext_localMode (b : Bool) (c : Junction) : (withdrawnContext b c).localMode = c.localMode := by
  cases b <;> rfl

theorem withHolder_localMode (s : State) (i : SlotId) (r : Record) (c : Junction) :
    (withHolder s i r c).localMode = c.localMode := by
  unfold withHolder
  split <;> rfl

/-- Marking the candidates leaves the order a handed-back holder has been placed in (R85, R122). -/
theorem markAll_returned (j : JunctionId) (i : SlotId) (r : Record) (l : List SlotId) (W : State) :
    ∃ v, l.foldl (fun t i => onRecord i marked t) (onJunction j (withHolder W i r) W) =
      onJunction j (withHolder (l.foldl (fun t i => onRecord i marked t) (onJunction j (withHolder W i r) W)) i r)
        { W with slots := v } := by
  obtain ⟨v, hv⟩ := markAll_eq l (onJunction j (withHolder W i r) W)
  have hmarks := recast_markAll l (onJunction j (withHolder W i r) W)
  have hplace : ∀ c, withHolder (l.foldl (fun t i => onRecord i marked t) (onJunction j (withHolder W i r) W)) i r c
      = withHolder W i r c := fun c => by
    unfold withHolder at hmarks ⊢
    rw [hmarks.insertSorted (fun k q => by split <;> exact ⟨rfl, rfl⟩), insertSorted_congr (onJunction_slots ..)]
  refine ⟨v, ?_⟩
  rw [funext hplace, hv]
  rfl

/-- The context of a junction whose grant an adoption has ended, its holder apart. -/
def unheldContext (unsent : Bool) (c : Junction) : Junction := { withdrawnContext unsent c with grant := none }

theorem unheldContext_candidates (b : Bool) (c : Junction) : (unheldContext b c).candidates = c.candidates := by
  cases b <;> rfl

section

variable {s : State} {j : JunctionId} (hT : TableConsistent s)

include hT

theorem adoptionState_dark (hdark : isLive (junctionAt s j) = false) : ∃ v,
    adoptionState j s = onJunction j (fun c => c) (withTable s v s.directives)
      ∧ Recast (adoptedRecord s j) s (adoptionState j s) := by
  have hstate : adoptionState j s = markFlight j s := if_neg (by rw [hdark]; exact nofun)
  obtain ⟨v, hv⟩ := markFlight_eq j s
  refine ⟨v, ?_, hstate ▸ recast_adopted_dark hT hdark⟩
  rw [hstate, hv, onJunction_id]
  rfl

theorem adoptionState_free (hlive : isLive (junctionAt s j) = true) (hg : (junctionAt s j).grant = none) : ∃ v,
    adoptionState j s = onJunction j (withdrawnContext (s.directives.any (unsentOf j)))
        (withTable s v (s.directives.filter fun d => !unsentOf j d))
      ∧ Recast (adoptedRecord s j) s (adoptionState j s) := by
  obtain ⟨v, hv⟩ := markFlight_eq j s
  have hflown : Recast (flown s j) s (withdraw j (fun k => !isRelease k) (markFlight j s)) :=
    (recast_markFlight j s).trans (.of_slots (withdraw_slots ..))
  have hcontext : ∀ t, t = withdraw j (fun k => !isRelease k) (markFlight j s) →
      junctionAt t j = withdrawnContext (s.directives.any (unsentOf j)) (junctionAt s j) := fun t ht => by
    rw [ht, withdraw_eq, hv, junctionAt_onJunction_same]
    rfl
  have hstate : adoptionState j s =
      markCandidates j (endForAdoption j (withdraw j (fun k => !isRelease k) (markFlight j s))) := if_pos hlive
  have hfree : endForAdoption j (withdraw j (fun k => !isRelease k) (markFlight j s))
      = withdraw j (fun k => !isRelease k) (markFlight j s) := by
    rw [endForAdoption, hcontext _ rfl, withdrawnContext_grant, hg]
  rw [hstate, hfree, markCandidates_eq, hcontext _ rfl, withdrawnContext_candidates]
  obtain ⟨w, hw⟩ := markAll_eq (junctionAt s j).candidates (withdraw j (fun k => !isRelease k) (markFlight j s))
  refine ⟨w, ?_, recast_adopted_free hT hg hflown⟩
  rw [hw, withdraw_eq, hv]
  rfl

/-- At a LIVE junction with a grant the holder's record decides what its order becomes (R112, R122). -/
theorem adoptionState_held (hlive : isLive (junctionAt s j) = true) {g : Grant} {r : Record}
    (hg : (junctionAt s j).grant = some g) (hr : recordAt s g.slot = some r) : ∃ v,
    adoptionState j s = onJunction j (fun c =>
        withHolder (adoptionState j s) g.slot r (unheldContext (s.directives.any (unsentOf j)) c))
        (withTable s v (s.directives.filter fun d => !unsentOf j d))
      ∧ Recast (adoptedRecord s j) s (adoptionState j s) := by
  obtain ⟨v, hv⟩ := markFlight_eq j s
  have hflown : Recast (flown s j) s (clearGrant j (withdraw j (fun k => !isRelease k) (markFlight j s))) :=
    (recast_markFlight j s).trans (.of_slots ((clearGrant_slots ..).trans (withdraw_slots ..)))
  have hstate : adoptionState j s =
      markCandidates j (endForAdoption j (withdraw j (fun k => !isRelease k) (markFlight j s))) := if_pos hlive
  have hcontext : ∀ t, t = withdraw j (fun k => !isRelease k) (markFlight j s) →
      junctionAt t j = withdrawnContext (s.directives.any (unsentOf j)) (junctionAt s j) := fun t ht => by
    rw [ht, withdraw_eq, hv, junctionAt_onJunction_same]
    rfl
  have hheld := returnHolder_eq j (r := flown s j g.slot r)
    (s := clearGrant j (withdraw j (fun k => !isRelease k) (markFlight j s)))
    (by rw [hflown.recordAt, hr, Option.map_some])
  have hended : endForAdoption j (withdraw j (fun k => !isRelease k) (markFlight j s))
      = returnHolder j g.slot (clearGrant j (withdraw j (fun k => !isRelease k) (markFlight j s))) := by
    rw [endForAdoption, hcontext _ rfl, withdrawnContext_grant, hg]
  rw [hended, hheld, withHolder_flown] at hstate
  have hx : clearGrant j (withdraw j (fun k => !isRelease k) (markFlight j s)) =
      onJunction j (unheldContext (s.directives.any (unsentOf j)))
        (withTable s v (s.directives.filter fun d => !unsentOf j d)) := by
    rw [clearGrant, withdraw_eq, hv]
    exact onJunction_onJunction ..
  generalize clearGrant j (withdraw j (fun k => !isRelease k) (markFlight j s)) = x at hflown hstate hx
  rw [markCandidates_eq, junctionAt_onJunction_same, junctionAt_onSlot_frame, hx,
    junctionAt_onJunction_same, junctionAt_withTable, ← hx] at hstate
  generalize hW : onSlot g.slot (fun sl => { sl with record := some (handedBackRecord (flown s j g.slot r)) }) x = W at hstate
  obtain ⟨w, hw⟩ := markAll_returned j g.slot r
    (withHolder W g.slot r (unheldContext (s.directives.any (unsentOf j)) (junctionAt s j))).candidates W
  rw [← hstate] at hw
  refine ⟨w, hw.trans ?_, ?_⟩
  · have hslots : { W with slots := w } = onJunction j (unheldContext (s.directives.any (unsentOf j)))
        (withTable s w (s.directives.filter fun d => !unsentOf j d)) := by
      rw [← hW, hx]
      rfl
    rw [hslots]
    exact onJunction_onJunction ..
  · rw [hstate]
    refine recast_adopted_held hT hg hr (fun i hi => (mem_withHolder hi).trans ?_) hflown
      (congrArg State.slots hW.symm :)
    rw [unheldContext_candidates]

end

/-! ### The report after the adoption (R10, R12) -/

theorem tableConsistent_heard {j : JunctionId} {s : State} (h : TableConsistent s) : TableConsistent (heard j s) := by
  rw [tableConsistent_iff] at h ⊢
  refine ⟨h.1, ?_⟩
  have htable : tableOf (heard j s) = tableOf s := by
    refine tableOf_onJunction_of_desk (s := { s with junctionRx := .hunt }) ?_
    have hlive := isLive_heard j s
    rw [junctionAt_heard] at hlive
    exact congrArg (fun l => (⟨l, (junctionAt s j).localMode, (activeSteps (junctionAt s j)).length,
      (junctionAt s j).candidates, (junctionAt s j).grant, (junctionAt s j).outstanding⟩ : Desk)) hlive
  rw [htable]
  exact h.2

theorem tryEnterLive_eq (now : Time) (j : JunctionId) (count : Byte) {p : Plan} {s : State} (hnow : s.time = now)
    (hp : (junctionAt s j).activePlan = some p) : tryEnterLive now j count s =
      if (junctionAt s j).localMode = some .coord then issueCheck now j (entered j count p s)
      else onJunction j (fun c => { c with sync := .dark .localMode }) s := by
  rw [tryEnterLive, enterLive_eq now j count hnow hp]
  rfl

theorem cycleStart_of_staged (now : Time) {j : JunctionId} (count : Byte) {p : Plan} {s : State}
    (h : (junctionAt s j).stagedPlan = some p) : cycleStart now j count p.planId s = adoptPlan now j count p s := by
  simp [cycleStart, h]

/-- An adoption in one form: what the junction's context, the table and the directive queue become (R11, R122, R134). -/
theorem adoptionState_spec {s : State} {j : JunctionId} (hT : TableConsistent s) : ∃ v K,
    adoptionState j s = onJunction j K (withTable s v
        (if isLive (junctionAt s j) then s.directives.filter (fun d => !unsentOf j d) else s.directives))
      ∧ Recast (adoptedRecord s j) s (adoptionState j s)
      ∧ ((junctionAt s j).grant = none → K (junctionAt s j) =
          unheldContext (isLive (junctionAt s j) && s.directives.any (unsentOf j)) (junctionAt s j))
      ∧ (∀ g r, (junctionAt s j).grant = some g → recordAt s g.slot = some r → K (junctionAt s j) =
          withHolder (adoptionState j s) g.slot r
            (unheldContext (isLive (junctionAt s j) && s.directives.any (unsentOf j)) (junctionAt s j)))
      ∧ (K (junctionAt s j)).localMode = (junctionAt s j).localMode := by
  have hunheld : ∀ b, (junctionAt s j).grant = none →
      withdrawnContext b (junctionAt s j) = unheldContext b (junctionAt s j) := fun b hg => by
    rw [unheldContext, ← hg, ← withdrawnContext_grant b]
  cases hlive : isLive (junctionAt s j) with
  | false =>
    have hnone := (hT.2.2.2.1 j hlive).1
    obtain ⟨v, hv, hrecast⟩ := adoptionState_dark hT hlive
    exact ⟨v, _, hv, hrecast, hunheld false, fun g r hg => absurd (hnone.symm.trans hg) nofun, rfl⟩
  | true =>
    rw [Bool.true_and]
    cases hg : (junctionAt s j).grant with
    | none =>
      obtain ⟨v, hv, hrecast⟩ := adoptionState_free hT hlive hg
      exact ⟨v, _, hv, hrecast, fun _ => hunheld _ hg, fun g r hg' => absurd hg' nofun,
        withdrawnContext_localMode ..⟩
    | some g =>
      obtain ⟨r, hr, -⟩ := hT.2.2.1.1 j g hg
      obtain ⟨v, hv, hrecast⟩ := adoptionState_held hT hlive hg hr
      refine ⟨v, _, hv, hrecast, fun h => absurd h nofun, fun g' r' hg' hr' => ?_,
        (withHolder_localMode ..).trans (withdrawnContext_localMode ..)⟩
      obtain rfl := Option.some.inj hg'
      obtain rfl := Option.some.inj (hr.symm.trans hr')
      rfl

/-- The staged plan made the active one (R11). -/
def adopting (p : Plan) (c : Junction) : Junction := { c with activePlan := some p, stagedPlan := none }

theorem adopting_withHolder (p : Plan) (s : State) (i : SlotId) (r : Record) (c : Junction) :
    adopting p (withHolder s i r c) = withHolder s i r (adopting p c) := by
  unfold withHolder
  split <;> rfl

theorem adopting_unheldContext (p : Plan) {b : Bool} {live : Prop} [Decidable live] {unsent : Bool}
    (hb : b = true ↔ live ∧ unsent = true) (c : Junction) : adopting p (unheldContext b c) =
      if live ∧ unsent = true then
        { c with activePlan := some p, stagedPlan := none, grant := none, outstanding := none, acceptDeadline := none }
      else { c with activePlan := some p, stagedPlan := none, grant := none } := by
  cases b with
  | true => rw [if_pos (hb.mp rfl)]; rfl
  | false => rw [if_neg (fun h => absurd (hb.mpr h) nofun)]; rfl

/-- Settles O16: the adoption of the heard state, and the report handled under R12. -/
theorem cycleStartAdoptsTheStagedPlan : Obligations.CycleStartAdoptsTheStagedPlan := by
  intro b count j s p hT hb hp
  obtain ⟨v, K, hstate, hrecast, hnone, hheld, hmode⟩ := adoptionState_spec (tableConsistent_heard (j := j) hT)
  have hexec : exec (.cycleStart b count p.planId) s = .next (tryEnterLive s.time j count
      (onJunction j (adopting p) (adoptionState j (heard j s)))) := by
    rw [exec_cycleStart count p.planId s hb, cycleStart_of_staged s.time count (by rw [heard_stagedPlan, hp]),
      adoptPlan_eq]
    rfl
  generalize adoptionState j (heard j s) = t at hstate hrecast hheld hexec
  have hcontext : junctionAt (onJunction j (adopting p) t) j = adopting p (K (junctionAt (heard j s) j)) := by
    rw [junctionAt_onJunction_same, hstate, junctionAt_onJunction_same, junctionAt_withTable]
  have hunheld := adopting_unheldContext p (live := isLive (junctionAt s j) = true)
    (unsent := s.directives.any (unsentOf j))
    (b := isLive (junctionAt (heard j s) j) && (heard j s).directives.any (unsentOf j))
    (by rw [isLive_heard, Bool.and_eq_true]; rfl) (junctionAt (heard j s) j)
  refine ⟨onJunction j (adopting p) t, ?_, ⟨?_, ?_, fun i => ⟨hrecast.generation i, hrecast.recordAt i⟩⟩, ?_⟩
  · have htime : (onJunction j (adopting p) t).time = s.time := by rw [hstate]; rfl
    rw [hexec, tryEnterLive_eq s.time j count htime (by rw [hcontext]; rfl), hcontext]
    have hlocal : (adopting p (K (junctionAt (heard j s) j))).localMode = (junctionAt s j).localMode :=
      hmode.trans (heard_localMode j s)
    rw [hlocal]
  · rw [hcontext]
    cases hg : (junctionAt s j).grant with
    | none =>
      rw [hnone (by rw [heard_grant, hg]), hunheld]
      rfl
    | some g =>
      obtain ⟨r, hr, -⟩ := hT.2.2.1.1 j g hg
      rw [hheld g r (by rw [heard_grant, hg]) hr, adopting_withHolder, hunheld]
      dsimp only
      rw [hr]
      exact (withHolder_congr (s := t) (t := onJunction j (adopting p) t) rfl ..).symm
  · rw [hstate]
    rw [isLive_heard]
    rfl
  · rw [hstate]
    refine ⟨fun k hk => ?_, rfl, rfl, rfl, rfl⟩
    rw [junctionAt_onJunction_ne (Ne.symm hk), junctionAt_onJunction_ne (Ne.symm hk), junctionAt_withTable]
    exact junctionAt_onJunction_ne (Ne.symm hk) ..

end Sys2Proof.Proofs

/-! Evaluations: their start, and what a completion does (O26, O33, O34, O35). -/

namespace Sys2Proof.Proofs

open Sys2Proof.Machine Sys2Proof.Safety Sys2Proof.Laws

/-! ### The start (R25, R58, R93, R94) -/

theorem startEvaluation_of_head {s : State} {i : SlotId} {rest : List SlotId} {r : Record} (hidle : s.flight = none)
    (hq : s.evalQueue = i :: rest) (hr : recordAt s i = some r) : startEvaluation s.time s =
      { s with
        evalQueue := rest
        flight := some { slot := i, generation := (slotAt s i).generation, te := s.time, reads := readsOf s r } } := by
  unfold startEvaluation
  rw [hidle, hq]
  dsimp only
  rw [hr]

theorem startEvaluation_of_not_due {s : State} (h : s.flight.isSome = true ∨ s.evalQueue = []) :
    startEvaluation s.time s = s := by
  unfold startEvaluation
  obtain hbusy | hempty := h
  · obtain ⟨f, hf⟩ := Option.isSome_iff_exists.mp hbusy
    rw [hf]
  · rw [hempty]
    cases s.flight <;> rfl

theorem modeOf_of_some {c : Junction} {g : Grant} (h : c.grant = some g) : modeOf c =
    if g.accepted then (if g.kind = .extend then .extending else .advancing) else .offered := by
  rw [modeOf, h]
  cases hk : g.kind <;> simp [hk]

theorem grantView_of_some {c : Junction} {g : Grant} (h : c.grant = some g) : grantView c = some
    { mode := if g.accepted then (if g.kind = .extend then .extending else .advancing) else .offered
      step := g.step, kind := g.kind, amount := g.amount } := by
  rw [grantView, h, Option.map_some, modeOf_of_some h]

theorem segmentView_eq (g : Segment) :
    segmentView g = { usable := decide (g.state ≠ .stale), estimate := g.estimate, length := g.length } := by
  unfold segmentView
  cases hs : g.state <;> simp

/-- The feeding segment of an approach, where the active plan's map names one that is configured (R58). -/
theorem bind_feedingOf {s : State} {c : Junction} {q : Fin 4} {p : Plan} {k : SegmentId} (hp : c.activePlan = some p)
    (hk : (p.approaches[q]).feeding = some k) : (feedingOf c q).bind (segmentAt s) = segmentAt s k := by
  rw [feedingOf, approachOf, hp, Option.map_some, Option.bind_some, hk, Option.bind_some]

theorem bind_feedingOf_eq_none {s : State} {c : Junction} {q : Fin 4}
    (h : ∀ p k, c.activePlan = some p → (p.approaches[q]).feeding = some k → segmentAt s k = none) :
    (feedingOf c q).bind (segmentAt s) = none := by
  rw [Option.bind_eq_none_iff]
  intro k hk
  obtain ⟨e, he, hfeeding⟩ := Option.bind_eq_some_iff.mp hk
  obtain ⟨p, hp, rfl⟩ := Option.map_eq_some_iff.mp he
  exact h p k hp hfeeding

/-- No command moves time while a start is due and remains so, where the clock waits for it (R93). -/
theorem time_of_startDue {s t : State} (htimely : Timely s) (hdue : StartDue s) (hstep : step s = .next t)
    (hdue' : StartDue t) : t.time = s.time := by
  obtain rfl | ⟨c, rest, hpending, hexec⟩ := step_cases hstep
  · rfl
  obtain ⟨u, hu, -, -, htime⟩ := everyCommandCompletesAndOnlyTheClockMovesTime.1 c { s with pending := rest }
  obtain rfl := Host.Outcome.next.inj (hu.symm.trans hexec)
  refine htime (fun hpower => ?_) fun htick => ?_
  · subst hpower
    obtain rfl := Host.Outcome.next.inj (hexec.symm.trans (exec_powerOn _))
    exact hdue'.2 rfl
  · subst htick
    obtain ⟨-, -, -, -, -, -, -, -, -, hclock⟩ := htimely
    exact hclock (by rw [hpending]; rfl) hdue

/-- Settles O26: the values read, one by one, and when nothing starts. -/
theorem evaluationStartsAtTheHead : Obligations.EvaluationStartsAtTheHead := by
  intro s
  refine ⟨fun i rest r hidle hq hr => ⟨readsOf s r, congrArg _ (startEvaluation_of_head hidle hq hr),
    ⟨rfl, rfl, rfl, rfl, rfl, rfl, rfl, rfl⟩, ⟨?_, rfl, rfl, rfl, rfl, rfl, fun h => ?_, fun g h => grantView_of_some h, fun p k g hp hk hg => ?_, fun h => ?_⟩,
    ⟨rfl, rfl, rfl, rfl, rfl, rfl, rfl⟩⟩, fun h => congrArg _ (startEvaluation_of_not_due h), fun t => time_of_startDue⟩
  · exact isLive_iff
  · exact congrArg (Option.map _) h
  · refine (congrArg (Option.map segmentView) ((bind_feedingOf hp hk).trans hg)).trans ?_
    rw [Option.map_some, segmentView_eq]
  · exact congrArg (Option.map segmentView) (bind_feedingOf_eq_none h)

/-! ### Results discarded (R96, R97) -/

/-- Settles O33: by what the slot holds. -/
theorem lostOrRestatedResultsAreDiscarded : Obligations.LostOrRestatedResultsAreDiscarded := by
  intro s
  refine ⟨fun hidle => ?_, fun f hf => ⟨fun hlost => ?_, fun r hr hgeneration hchanged => ?_⟩⟩
  · refine congrArg Host.Outcome.next ?_
    unfold completeEvaluation
    rw [hidle]
  · refine congrArg Host.Outcome.next ?_
    unfold completeEvaluation
    rw [hf]
    dsimp only
    cases hr : recordAt s f.slot with
    | none => rfl
    | some r =>
      obtain hnone | hgeneration := hlost
      · exact absurd (hr.symm.trans hnone) nofun
      · exact if_pos hgeneration
  · refine congrArg Host.Outcome.next ?_
    unfold completeEvaluation
    rw [hf]
    dsimp only
    rw [hr]
    dsimp only
    rw [if_neg (not_not_intro hgeneration), if_pos hchanged,
      onRecord_of_some (s := { s with flight := none }) _ hr, enqueue_onSlot_record]
    rfl

/-! ### The state a completion sets (R80 to R84) -/

theorem completeEvaluation_stores {s : State} {f : Flight} {r : Record} (hf : s.flight = some f)
    (hr : recordAt s f.slot = some r) (hgeneration : (slotAt s f.slot).generation = f.generation)
    (hsame : r.changedInFlight = false) : exec .evaluationCompletion s =
      .next (storeResult s.time f.slot r f.reads (evaluate f.reads f.te) { s with flight := none }) := by
  refine congrArg Host.Outcome.next ?_
  unfold completeEvaluation
  rw [hf]
  dsimp only
  rw [hr]
  dsimp only
  rw [if_neg (not_not_intro hgeneration), if_neg (by rw [hsame]; exact nofun)]

theorem stored_evaluate (f : Flight) (r : Record) : stored (evaluate f.reads f.te) r = withResults f r := by
  have hdecision : completedDecision r.decision (decisionOf f.reads f.te).1 = (withResults f r).decision := by
    unfold completedDecision withResults
    cases (decisionOf f.reads f.te).1 <;> rfl
  exact congrArg (fun d => { withResults f r with decision := d }) hdecision

theorem grantsStep_iff (c : Junction) (phi : Option Nat) : grantsStep c phi = true ↔ AcceptedOn c phi := by
  simp [grantsStep, AcceptedOn, Option.any_eq_true]

/-- R80's rows, with the riding test of the junction at completion (R80, R82, R83). -/
theorem completedState_eq {c : Junction} {cls : PriorityClass} {r : Reads} {e : EvalResult} {riding : Bool}
    (h : e.outcome = .none → grantsStep c (readPriority r) = riding) :
    completedState c cls r e = stateByRows e.outcome (isLive c) riding cls r e.score := by
  unfold completedState stateByRows
  split
  · rfl
  · split
    · rfl
    · cases ho : e.outcome with
      | none => simp [h ho]
      | extend n | advance n =>
        by_cases hcls : cls = .forced <;> simp [testedState, isEarly, hcls]
      | indefinite | beyond | dark | notServed | far | noSlack => simp_all

/-- A record whose NONE rested on a grant that has ended (R82). -/
theorem restsOnEndedGrant_iff {c : Junction} {r : Reads} {e : EvalResult} {riding : Bool}
    (h : riding = true ↔ AcceptedOn c (readPriority r)) : restsOnEndedGrant c r e = true ↔
      e.outcome = .none ∧ isLive c = true ∧ riding = false ∧ ReadAccepted r
        ∧ r.grant.map GrantView.step = readPriority r := by
  have hgrants : grantsStep c (readPriority r) = riding := Bool.eq_iff_iff.mpr ((grantsStep_iff ..).trans h.symm)
  have hread : readGrantOn r = true ↔ ReadAccepted r ∧ r.grant.map GrantView.step = readPriority r := by
    unfold readGrantOn ReadAccepted
    cases r.grant <;> simp
  simp only [restsOnEndedGrant, Bool.and_eq_true, decide_eq_true_eq, hread, hgrants, Bool.not_eq_true']
  tauto

theorem followOrder_eq (i : SlotId) (before : Record) (after : RecordState) (score : Nat) (s : State) :
    followOrder i before after score s = onJunction before.junction (orderAfter s i before after score) s := by
  have hid : ∀ h : Junction → Junction, (∀ c, h c = c) → s = onJunction before.junction h s := fun h hh => by
    rw [show h = fun c => c from funext hh, onJunction_id]
  have hcontext : ∀ h : Junction → Junction, (∀ c, orderAfter s i before after score c = h c) →
      onJunction before.junction h s = onJunction before.junction (orderAfter s i before after score) s :=
    fun h hh => congrArg (onJunction before.junction · s) (funext fun c => (hh c).symm)
  unfold followOrder
  by_cases hb : before.status = .candidate <;> by_cases ha : after = .candidate
  · rw [decide_eq_true hb, decide_eq_true ha]
    by_cases hscore : before.score = score
    · exact (if_pos hscore).trans (hid _ fun c => by rw [orderAfter, if_pos hb, if_pos ha, if_pos hscore])
    · refine (if_neg hscore).trans (hcontext (fun c =>
        { c with candidates := insertSorted s i (c.candidates.erase i), changeCount := c.changeCount + 1 }) fun c => ?_)
      rw [orderAfter, if_pos hb, if_pos ha, if_neg hscore]
  · rw [decide_eq_true hb, decide_eq_false ha]
    refine hcontext (fun c => { c with candidates := c.candidates.erase i, changeCount := c.changeCount + 1 }) fun c => ?_
    rw [orderAfter, if_pos hb, if_neg ha]
  · rw [decide_eq_false hb, decide_eq_true ha]
    refine hcontext (fun c =>
      { c with candidates := insertSorted s i c.candidates, changeCount := c.changeCount + 1 }) fun c => ?_
    rw [orderAfter, if_neg hb, if_pos ha]
  · rw [decide_eq_false hb, decide_eq_false ha]
    exact hid _ fun c => by rw [orderAfter, if_neg hb, if_neg ha]

/-- A completion sets the record's state, the order follows, and a record that rested on an ended grant is queued (R80, R82,
R84). -/
theorem settleState_eq {i : SlotId} {q : Record} {s t : State} (r : Record) {f : Reads} {e : EvalResult} {st : RecordState}
    {rests : Bool} (hq : recordAt s i = some q) (hst : completedState (junctionAt s r.junction) r.cls f e = st)
    (hrests : restsOnEndedGrant (junctionAt s r.junction) f e = rests)
    (ht : onSlot i (fun sl => { sl with record := some { q with status := st } }) s = t) : settleState i r f e s =
      { onJunction r.junction (orderAfter t i r st (completedScore r.cls e)) t with
        evalQueue := if rests then queued s.evalQueue i else s.evalQueue } := by
  unfold settleState
  dsimp only
  rw [hst, hrests, followOrder_eq, onRecord_of_some _ hq, ht]
  have hqueue : t.evalQueue = s.evalQueue := by rw [← ht, onSlot_evalQueue]
  split
  · rw [enqueue_eq _ _ (by rw [recordAt_onJunction_frame, ← ht, recordAt_put, if_pos rfl]; rfl), onJunction_evalQueue,
      hqueue]
  · rw [← hqueue]
    rfl

theorem completedScore_evaluate (f : Flight) (r : Record) :
    completedScore r.cls (evaluate f.reads f.te) = (withResults f r).score := rfl

/-- The results of an evaluation stored, and then the record's state (R98). -/
theorem onSlot_stored {i : SlotId} {r : Record} {s : State} (f : Flight) (st : RecordState) (hr : recordAt s i = some r) :
    onSlot i (fun sl => { sl with record := some { withResults f r with status := st } })
        (onRecord i (stored (evaluate f.reads f.te)) s)
      = onSlot i (fun sl => { sl with record := some { withResults f r with status := st } }) s := by
  rw [onRecord_of_some _ hr]
  simp [onSlot, slotAt]

theorem recordAt_stored {i : SlotId} {r : Record} {s : State} (f : Flight) (hr : recordAt s i = some r) :
    recordAt (onRecord i (stored (evaluate f.reads f.te)) s) i = some (withResults f r) := by
  rw [onRecord_of_some _ hr, recordAt_put, if_pos rfl, stored_evaluate]

theorem storeResult_of_not_granted {i : SlotId} {r : Record} {s : State} (f : Reads) (e : EvalResult)
    (htag : tagOf r.status = none) : storeResult s.time i r f e s =
      if completedState (junctionAt s r.junction) r.cls f e = .candidate then
        issueCheck s.time r.junction (settleState i r f e (onRecord i (stored e) s))
      else settleState i r f e (onRecord i (stored e) s) := by
  unfold storeResult
  cases hstatus : r.status with
  | granted tag => rw [hstatus] at htag; exact absurd htag nofun
  | pending | tracking reason | candidate | riding | held reason => rfl

theorem not_candidate_of_none {live riding : Bool} {cls : PriorityClass} {r : Reads} {score : Nat} :
    stateByRows .none live riding cls r score ≠ .candidate := by
  unfold stateByRows
  cases live <;> cases riding <;> simp

/-- Settles O34: the record's status has no tag, so R80 sets its state. -/
theorem completionStoresTheResultsAndSetsTheState : Obligations.CompletionStoresTheResultsAndSetsTheState := by
  intro s f r riding hf hr hgeneration hsame htag hriding
  have hgrants : grantsStep (junctionAt s r.junction) (readPriority f.reads) = riding :=
    Bool.eq_iff_iff.mpr ((grantsStep_iff ..).trans hriding.symm)
  have hstate : completedState (junctionAt s r.junction) r.cls f.reads (evaluate f.reads f.te) =
      stateByRows (decisionOf f.reads f.te).2 (isLive (junctionAt s r.junction)) riding r.cls f.reads
        (scoreOf f.reads (decisionOf f.reads f.te).2) := completedState_eq fun _ => hgrants
  have hrests := restsOnEndedGrant_iff (e := evaluate f.reads f.te) hriding
  have hr' : recordAt { s with flight := none } f.slot = some r := hr
  have hsettled := fun (rests : Bool) (h : restsOnEndedGrant (junctionAt s r.junction) f.reads (evaluate f.reads f.te) = rests) =>
    settleState_eq r (recordAt_stored f hr') hstate h (onSlot_stored f _ hr')
  rw [completeEvaluation_stores hf hr hgeneration hsame]
  have hstore := storeResult_of_not_granted (s := { s with flight := none }) (i := f.slot) f.reads (evaluate f.reads f.te) htag
  refine ⟨fun hrested => ?_, fun hnot => ?_⟩
  · have hnever : completedState (junctionAt s r.junction) r.cls f.reads (evaluate f.reads f.te) ≠ .candidate := by
      rw [hstate, hrested.1]
      exact not_candidate_of_none
    exact congrArg Host.Outcome.next (hstore.trans ((if_neg hnever).trans (hsettled true (hrests.mpr hrested))))
  · have hsettled' := hsettled false (Bool.eq_false_iff.mpr (mt hrests.mp hnot))
    refine congrArg Host.Outcome.next (hstore.trans ?_)
    rw [hsettled']
    exact congrArg (fun st => if st = RecordState.candidate then _ else _) hstate

/-! ### The holder rule (R115, R120) -/

theorem withdraws_iff {c : Junction} {g : Grant} (f : Flight) (hg : c.grant = some g) :
    withdraws c f.reads (evaluate f.reads f.te) = true ↔
      g.accepted = true ∧ ReadAccepted f.reads ∧ (decisionOf f.reads f.te).2 ≠ .none := by
  have hread : (f.reads.grant.any fun g => decide (g.mode = .extending) || decide (g.mode = .advancing)) = true ↔
      ReadAccepted f.reads := by
    unfold ReadAccepted
    cases f.reads.grant <;> simp
  rw [withdraws, Bool.and_eq_true, Bool.and_eq_true, hread, hg, Option.any_some, decide_eq_true_eq, and_assoc]
  rfl

theorem storeResult_of_granted {i : SlotId} {r : Record} {s : State} {tag : Byte} {g : Grant} (f : Reads) (e : EvalResult)
    (hstatus : r.status = .granted tag) (hg : (junctionAt s r.junction).grant = some g) : storeResult s.time i r f e s =
      if withdraws (junctionAt s r.junction) f e then
        issueCheck s.time r.junction (endAccepted s.time r.junction g true none
          (fun t => enqueue i (settleState i r f e t)) (onRecord i (stored e) s))
      else onRecord i (stored e) s := by
  unfold storeResult
  rw [hstatus]
  dsimp only
  rw [hg]

theorem stateByRows_of_not_none {o : EvalOutcome} (h : o ≠ .none) (live riding riding' : Bool) (cls : PriorityClass)
    (r : Reads) (score : Nat) : stateByRows o live riding cls r score = stateByRows o live riding' cls r score := by
  unfold stateByRows
  rw [if_neg h, if_neg h]

theorem orderAfter_congr {s t : State} (h : t.slots = s.slots) (i : SlotId) (r : Record) (st : RecordState) (score : Nat)
    (c : Junction) : orderAfter t i r st score c = orderAfter s i r st score c := by
  unfold orderAfter
  rw [insertSorted_congr h, insertSorted_congr h]

theorem orderAfter_ungranted (s : State) (i : SlotId) (r : Record) (st : RecordState) (score : Nat) (c : Junction) :
    { orderAfter s i r st score c with grant := none } = orderAfter s i r st score { c with grant := none } := by
  unfold orderAfter
  split_ifs <;> rfl

theorem stateByRows_ne_riding {o : EvalOutcome} (h : o ≠ .none) (live riding : Bool) (cls : PriorityClass)
    (r : Reads) (score : Nat) : stateByRows o live riding cls r score ≠ .riding := by
  unfold stateByRows
  rw [if_neg h]
  split_ifs <;> exact nofun

/-- A holder enqueued, and then the riders (R115, R116). -/
theorem enqueueWhere_enqueue {s : State} {i : SlotId} (j : JunctionId) (q : List SlotId) (h : (recordAt s i).isSome = true) :
    enqueueWhere (isRider j) (enqueue i { s with evalQueue := q }) =
      { s with evalQueue := queuedWhere (queued q i) (holdsRiderOf s j) } := by
  rw [enqueue_eq i { s with evalQueue := q } h, enqueueWhere_eq]
  exact congrArg (fun p : SlotId → Bool => { s with evalQueue := queuedWhere (queued q i) p })
    (funext fun k => any_isRider s j k)

/-- The grant withdrawn from a holder whose results have been stored: R116's steps, with R80's state for the holder. -/
theorem endAccepted_withdrawn {now : Time} {i : SlotId} {r q : Record} {g : Grant} {s t : State} {f : Reads} {e : EvalResult}
    {st : RecordState} (hq : recordAt s i = some q) (hold : q.status ≠ .riding) (hnew : st ≠ .riding)
    (hst : ∀ c : Junction, isLive c = isLive (junctionAt s r.junction) → completedState c r.cls f e = st)
    (hrests : ∀ c, restsOnEndedGrant c f e = false)
    (hlive : isLive (junctionAt t r.junction) = isLive (junctionAt s r.junction))
    (ht : onSlot i (fun sl => { sl with record := some { q with status := st } })
      (onJunction r.junction (fun c => { c with lockout := s.policy.lockoutCycles }) (releaseGrant now r.junction g s)) = t) :
    endAccepted now r.junction g true none (fun t => enqueue i (settleState i r f e t)) s =
      clearGrant r.junction
        { onJunction r.junction (orderAfter t i r st (completedScore r.cls e)) t with
          evalQueue := queuedWhere (queued s.evalQueue i) (holdsRiderOf s r.junction) } := by
  have hslots := releaseGrant_slots now r.junction g s
  have hqueue := releaseGrant_evalQueue now r.junction g s
  have hpolicy : (releaseGrant now r.junction g s).policy = s.policy :=
    congrArg Outside.policy (outside_releaseGrant now r.junction g s)
  unfold endAccepted
  simp only [if_true]
  rw [hpolicy]
  generalize releaseGrant now r.junction g s = x at hslots hqueue ht
  have hq' : recordAt (onJunction r.junction (fun c => { c with lockout := s.policy.lockoutCycles }) x) i = some q :=
    (recordAt_congr hslots i).trans hq
  have hlive' : isLive (junctionAt (onJunction r.junction (fun c => { c with lockout := s.policy.lockoutCycles }) x)
      r.junction) = isLive (junctionAt s r.junction) := by
    rw [← hlive, ← ht, junctionAt_onSlot_frame]
  rw [settleState_eq r hq' (hst _ hlive') (hrests _) ht]
  have hqueue' : (if false = true then
      queued (onJunction r.junction (fun c => { c with lockout := s.policy.lockoutCycles }) x).evalQueue i
      else (onJunction r.junction (fun c => { c with lockout := s.policy.lockoutCycles }) x).evalQueue) = s.evalQueue :=
    (if_neg nofun).trans hqueue
  rw [hqueue']
  have hrecords : ∀ k, recordAt t k = if i = k then some { q with status := st } else recordAt s k := fun k => by
    rw [← ht, recordAt_put, recordAt_onJunction_frame, recordAt_congr hslots]
  have hriders : holdsRiderOf t r.junction = holdsRiderOf s r.junction := holdsRiderOf_put r.junction hq hold hnew hrecords
  have hsome : (recordAt t i).isSome = true := by rw [hrecords, if_pos rfl]; rfl
  refine congrArg (clearGrant r.junction) ((enqueueWhere_enqueue
    (s := onJunction r.junction (orderAfter t i r st (completedScore r.cls e)) t) r.junction s.evalQueue hsome).trans ?_)
  rw [← hriders]
  rfl

/-- What a withdrawal changes, part by part (R116, R120). -/
theorem endAccepted_withdrawn_spec {now : Time} {i : SlotId} {r q : Record} {g : Grant} {s : State} {f : Reads}
    {e : EvalResult} {st : RecordState} {tag : Byte} (hq : recordAt s i = some q) (hold : q.status ≠ .riding)
    (hnew : st ≠ .riding)
    (hst : ∀ c : Junction, isLive c = isLive (junctionAt s r.junction) → completedState c r.cls f e = st)
    (hrests : ∀ c, restsOnEndedGrant c f e = false) (htag : grantTagAt s g.slot = some tag)
    (hstep : g.step < (activeSteps (junctionAt s r.junction)).length) : ∃ u,
    endAccepted now r.junction g true none (fun t => enqueue i (settleState i r f e t)) s = u
      ∧ junctionAt u r.junction = orderAfter u i r st (completedScore r.cls e)
          { junctionAt s r.junction with
            releaseQueued := true
            adjustment := adjusted (junctionAt s r.junction).adjustment (giveBack now (junctionAt s r.junction) g)
            lockout := s.policy.lockoutCycles
            grant := none }
      ∧ OtherJunctionsSame r.junction s u
      ∧ slotAt u i = { slotAt s i with record := some { q with status := st } }
      ∧ OtherSlotsSame i s u
      ∧ u.evalQueue = queuedWhere (queued s.evalQueue i) (holdsRiderOf s r.junction)
      ∧ ReleaseJoins now r.junction tag s u ∧ u.notices = s.notices ∧ outside u = outside s := by
  have hcontext := junctionAt_releaseGrant now r.junction htag hstep
  have hslots := releaseGrant_slots now r.junction g s
  have hnotices := releaseGrant_notices now r.junction g s
  have houtside := outside_releaseGrant now r.junction g s
  have hjoins := releaseJoins_releaseGrant now r.junction htag
  have hend := endAccepted_withdrawn (now := now) (g := g) hq hold hnew hst hrests (t := onSlot i
      (fun sl => { sl with record := some { q with status := st } })
      (onJunction r.junction (fun c => { c with lockout := s.policy.lockoutCycles }) (releaseGrant now r.junction g s)))
    (by rw [junctionAt_onSlot_frame, junctionAt_onJunction_same, hcontext, if_pos rfl]; rfl) rfl
  generalize releaseGrant now r.junction g s = x at hcontext hslots hnotices houtside hjoins hend
  refine ⟨_, hend, ?_, fun k hk => ?_, ?_, fun k hk => ?_, rfl, releaseJoins_congr rfl rfl hjoins, hnotices, houtside⟩
  · refine Eq.trans ?_ (orderAfter_congr (s := onSlot i (fun sl => { sl with record := some { q with status := st } })
      (onJunction r.junction (fun c => { c with lockout := s.policy.lockoutCycles }) x)) (by rfl) ..).symm
    rw [clearGrant, junctionAt_onJunction_same]
    change ({ junctionAt (onJunction r.junction (orderAfter _ i r st (completedScore r.cls e)) _) r.junction with
      grant := none } : Junction) = _
    rw [junctionAt_onJunction_same, orderAfter_ungranted, junctionAt_onSlot_frame, junctionAt_onJunction_same, hcontext,
      if_pos rfl]
  · rw [clearGrant, junctionAt_onJunction_ne (Ne.symm hk)]
    change junctionAt (onJunction r.junction (orderAfter _ i r st (completedScore r.cls e)) _) k = _
    rw [junctionAt_onJunction_ne (Ne.symm hk), junctionAt_onSlot_frame, junctionAt_onJunction_ne (Ne.symm hk), hcontext,
      if_neg (Ne.symm hk)]
  · refine (slotAt_onSlot i i (fun sl => { sl with record := some { q with status := st } }) x).trans ?_
    rw [if_pos rfl, slotAt_congr hslots]
  · refine (slotAt_onSlot i k (fun sl => { sl with record := some { q with status := st } }) x).trans ?_
    rw [if_neg (Ne.symm hk), slotAt_congr hslots]

/-- A RELEASE joins by the flag, the queue and the transmitter alone. -/
theorem releaseJoins_of_same {now : Time} {j : JunctionId} {tag : Byte} {s s' u : State}
    (h : ReleaseJoins now j tag s' u) (hflag : (junctionAt s' j).releaseQueued = (junctionAt s j).releaseQueued) (hd : s'.directives = s.directives)
    (ht : s'.transmitter = s.transmitter) : ReleaseJoins now j tag s u := by
  obtain ⟨hd', ht'⟩ := queueDirective_congr now j .release tag hd ht
  unfold ReleaseJoins at h ⊢
  rwa [← hflag, ← hd, ← ht, ← hd', ← ht']

/-- Settles O35: the results stored, the grant standing or withdrawn. -/
theorem holderRuleJudgesTheGrant : Obligations.HolderRuleJudgesTheGrant := by
  intro s f r tag g hf hr hgeneration hsame hstatus hg hslot hstep
  have hr' : recordAt { s with flight := none } f.slot = some r := hr
  have hjudged := withdraws_iff f hg
  have hstore := storeResult_of_granted (i := f.slot) (s := { s with flight := none }) f.reads (evaluate f.reads f.te)
    hstatus hg
  rw [completeEvaluation_stores hf hr hgeneration hsame]
  refine ⟨fun hstands => congrArg Host.Outcome.next (hstore.trans ((if_neg (mt hjudged.mp hstands)).trans ?_)),
    fun hacc hread hout => ?_⟩
  · rw [onRecord_of_some _ hr', stored_evaluate]
    rfl
  · have hexec := hstore.trans (if_pos (hjudged.mpr ⟨hacc, hread, hout⟩))
    have hq := recordAt_stored f hr'
    have hstate : ∀ c : Junction, isLive c = isLive (junctionAt s r.junction) →
        completedState c r.cls f.reads (evaluate f.reads f.te) =
          stateByRows (decisionOf f.reads f.te).2 (isLive (junctionAt s r.junction)) false r.cls f.reads
            (scoreOf f.reads (decisionOf f.reads f.te).2) := fun c hc => by
      rw [completedState_eq (riding := false) fun h => absurd h hout, hc]
      rfl
    have hrests : ∀ c, restsOnEndedGrant c f.reads (evaluate f.reads f.te) = false := fun c => by
      rw [restsOnEndedGrant, show (evaluate f.reads f.te).outcome = (decisionOf f.reads f.te).2 from rfl,
        decide_eq_false hout]
      rfl
    have htag : grantTagAt (onRecord f.slot (stored (evaluate f.reads f.te)) { s with flight := none }) g.slot = some tag := by
      rw [hslot, grantTagAt, hq, Option.map_some, show (withResults f r).status = r.status from rfl, hstatus]
    have hriders : holdsRiderOf (onRecord f.slot (stored (evaluate f.reads f.te)) { s with flight := none }) r.junction
        = holdsRiderOf s r.junction := holdsRiderOf_put r.junction hr (by rw [hstatus]; exact nofun)
      (by rw [show (withResults f r).status = r.status from rfl, hstatus]; exact nofun) fun k => by
        rw [onRecord_of_some _ hr', recordAt_put, stored_evaluate]
        rfl
    have hheld : (withResults f r).status ≠ .riding := by
      rw [show (withResults f r).status = r.status from rfl, hstatus]
      exact nofun
    obtain ⟨u, hu, hcontext, hjunctions, hslot', hslots, hqueue, hjoins, hnotices, houtside⟩ :=
      endAccepted_withdrawn_spec (now := s.time) (g := g) (r := r) hq hheld (stateByRows_ne_riding hout _ _ _ _ _)
        hstate hrests htag hstep
    rw [hriders] at hqueue
    refine ⟨u, congrArg Host.Outcome.next (hexec.trans (congrArg _ hu)), hcontext, hjunctions, hslot'.trans ?_, fun k hk => ?_,
      hqueue, releaseJoins_of_same hjoins rfl rfl rfl, hnotices, houtside⟩
    · rw [slotAt_onRecord, if_pos rfl]
      rfl
    · rw [hslots k hk, slotAt_onRecord, if_neg (Ne.symm hk)]
      rfl

end Sys2Proof.Proofs

/-! The request table: refreshed, retired and named records (O21, O23). -/

namespace Sys2Proof.Proofs

open Sys2Proof.Machine Sys2Proof.Safety Sys2Proof.Laws

/-! ### A record whose score changes between completions (R42, R88) -/

/-- The record in its slot, and the slot enqueued. -/
def putQueued (i : SlotId) (r : Record) (s : State) : State :=
  { onSlot i (fun sl => { sl with record := some r }) s with evalQueue := queued s.evalQueue i }

/-- A candidate taken out of its order and placed again, the slot being enqueued (R88). -/
theorem enqueue_moveCandidate (j : JunctionId) (i : SlotId) (r : Record) (s : State) :
    enqueue i (moveCandidate j i (onSlot i (fun sl => { sl with record := some r }) s)) =
      onJunction j (fun c =>
        { c with
          candidates := insertSorted (putQueued i r s) i (c.candidates.erase i)
          changeCount := c.changeCount + 1 }) (putQueued i r s) := by
  have hsome : (recordAt (moveCandidate j i (onSlot i (fun sl => { sl with record := some r }) s)) i).isSome = true := by
    rw [recordAt_congr (moveCandidate_slots ..), recordAt_put, if_pos rfl]
    rfl
  rw [enqueue_eq _ _ hsome, moveCandidate_evalQueue]
  have hsorted := fun l => insertSorted_congr
    (s := onSlot i (fun sl => { sl with record := some r }) s) (t := putQueued i r s) rfl i l
  simp only [hsorted]
  rfl

/-- A record replaced, its slot enqueued, and a candidate whose score has changed moved (R42, R88). -/
theorem rescored_eq (now : Time) (j : JunctionId) (i : SlotId) (r r' : Record) (s : State) :
    (if isMoved r r'.score then
        issueCheck now j (enqueue i (moveCandidate j i (onSlot i (fun sl => { sl with record := some r' }) s)))
      else enqueue i (onSlot i (fun sl => { sl with record := some r' }) s)) =
      if r.status = .candidate ∧ r'.score ≠ r.score then
        issueCheck now j (onJunction j (fun c =>
          { c with
            candidates := insertSorted (putQueued i r' s) i (c.candidates.erase i)
            changeCount := c.changeCount + 1 }) (putQueued i r' s))
      else putQueued i r' s := by
  have hmoved : isMoved r r'.score = true ↔ r.status = .candidate ∧ r'.score ≠ r.score := by
    rw [isMoved, Bool.and_eq_true, decide_eq_true_eq, decide_eq_true_eq]
    exact and_congr_right fun _ => ne_comm
  rw [enqueue_moveCandidate, enqueue_onSlot_record]
  exact if_congr hmoved rfl rfl

theorem holdsKey_of_fields {s : State} {i : SlotId} {r : Record} {v : Half} {b : Byte} (hr : recordAt s i = some r)
    (hv : r.vehicle = v) (hb : r.junction.val = b.toNat) : HoldsKey s i v b := ⟨r, hr, hv, hb⟩

theorem findKey_of_real {s : State} {i : SlotId} {v : Half} {b : Byte} (hreal : realVehicle v = true)
    (hkeys : KeysDiffer s) (h : HoldsKey s i v b) : findKey s v b = some i := by
  rw [findKey, if_pos hreal]
  refine find?_finRange_eq_some ((any_hasKey_iff s i v b).mpr h) fun k hk => ?_
  rw [← Bool.not_eq_true, any_hasKey_iff]
  exact fun hk' => hk.ne (holdsKey_unique hkeys hk' h)

/-- Settles O21: the key finds its one slot (R38), whose record is refreshed. -/
theorem checkInRefreshesItsRecord : Obligations.CheckInRefreshesItsRecord := by
  intro m j q s i r hkeys hadmits hr hvehicle hjunction
  obtain ⟨hreal, hj, -⟩ := id hadmits
  have hcheck : checkCheckIn (received s) m = some ⟨j, q⟩ := (checkCheckIn_eq_some_iff (received s) m j q).mpr hadmits
  have hfind : findKey (received s) m.vehicle m.junction = some i :=
    findKey_of_real (s := received s) (decide_eq_true hreal) hkeys
      (holdsKey_of_fields (s := received s) hr hvehicle (by rw [hjunction, hj]))
  have hr' : recordAt (received s) i = some r := hr
  rw [exec_checkIn]
  simp only [checkIn, hcheck, hfind, hr', refreshRecord, onRecord_of_some _ hr']
  subst hjunction
  exact congrArg Host.Outcome.next (rescored_eq s.time r.junction i r
    (Machine.refreshed (received s) m ⟨r.junction, q⟩ (inFlight (received s) i) r) (received s))

/-! ### A record named by a command (R163) -/

theorem junctionOf_of_holdsKey {s : State} {i : SlotId} {v : Half} {b : Byte} (h : HoldsKey s i v b) :
    ∃ j, junctionOf b = some j := by
  obtain ⟨r, -, -, hj⟩ := h
  exact ⟨r.junction, junctionOf_eq_some_iff.mpr hj.symm⟩

theorem resolveName_of_key {s : State} {i : SlotId} {n : RecordName} (strict : Bool) (hbounded : RecordsBounded s)
    (hkeys : KeysDiffer s) (hmode : n.mode = 0#8) (h : HoldsKey s i n.vehicle n.junction) :
    resolveName s strict n = .ok i := by
  obtain ⟨j, hj⟩ := junctionOf_of_holdsKey h
  simp only [resolveName, hmode, if_true, hj, findKey_of_holdsKey hbounded hkeys h]

theorem resolveName_of_unheld {s : State} {n : RecordName} {j : JunctionId} (strict : Bool) (hmode : n.mode = 0#8)
    (hj : junctionOf n.junction = some j) (h : ∀ i, ¬HoldsKey s i n.vehicle n.junction) :
    resolveName s strict n = .error .noRecord := by
  simp only [resolveName, hmode, if_true, hj, findKey_of_not_held h]

theorem resolveName_of_badJunction {s : State} {n : RecordName} (strict : Bool) (hmode : n.mode = 0#8)
    (hj : 15 < n.junction.toNat) : resolveName s strict n = .error .badJunction := by
  simp only [resolveName, hmode, if_true, junctionOf_of_above hj]

/-- A record named by its slot: the generation counts only where the name is read strictly. -/
theorem resolveName_of_slot {s : State} {i : SlotId} {n : RecordName} (strict : Bool) (hmode : n.mode = 1#8)
    (hi : n.slot.toNat = i.val) :
    resolveName s strict n =
      if (recordAt s i).isNone = true ∨ (strict = true ∧ (slotAt s i).generation ≠ n.generation) then .error .noRecord
      else .ok i := by
  have hlt : n.slot.toNat < 96 := hi ▸ i.isLt
  have hslot : (⟨n.slot.toNat, hlt⟩ : SlotId) = i := Fin.ext hi
  rw [resolveName, if_neg (by rw [hmode]; decide), if_pos hmode, dif_pos hlt, hslot]
  dsimp only
  split_ifs <;> tauto

theorem resolveName_of_badSlot {s : State} {n : RecordName} (strict : Bool) (hmode : n.mode = 1#8)
    (h : 95 < n.slot.toNat) : resolveName s strict n = .error .badField := by
  rw [resolveName, if_neg (by rw [hmode]; decide), if_pos hmode, dif_neg (by omega)]

theorem resolveName_of_badMode {s : State} {n : RecordName} (strict : Bool) (h : 1 < n.mode.toNat) :
    resolveName s strict n = .error .badField := by
  rw [resolveName, if_neg, if_neg] <;> rintro e <;> rw [e] at h <;> revert h <;> decide

/-! ### The commands that retire a record (R50 to R54) -/

theorem retireKey_of_holdsKey {s : State} {i : SlotId} {v : Half} {b : Byte} (now : Time) (o : RetireOutcome)
    (hbounded : RecordsBounded s) (hkeys : KeysDiffer s) (h : HoldsKey s i v b) :
    retireKey now v b o s = retire now i o s := by
  simp only [retireKey, findKey_of_holdsKey hbounded hkeys h]

theorem retireKey_of_unheld {s : State} {v : Half} {b : Byte} (now : Time) (o : RetireOutcome)
    (h : ∀ i, ¬HoldsKey s i v b) : retireKey now v b o s = s := by
  simp only [retireKey, findKey_of_not_held h]

theorem not_holdsKey_of_above {s : State} {b : Byte} (hb : 15 < b.toNat) (v : Half) (i : SlotId) :
    ¬HoldsKey s i v b := by
  rintro ⟨r, -, -, hj⟩
  have := r.junction.isLt
  omega

theorem exec_checkOut (v : Half) (b : Byte) (s : State) :
    exec (.checkOut v b) s = .next (retireKey s.time v b .served (received s)) := rfl

theorem exec_cancel (v : Half) (b : Byte) (s : State) :
    exec (.cancel v b) s = .next (retireKey s.time v b .withdrawn (received s)) := rfl

theorem exec_passage {b : Byte} {j : JunctionId} (a : Byte) (v : Half) (s : State) (hj : junctionOf b = some j) :
    exec (.passage b a v) s = .next (passageAt s.time v j (retireKey s.time v b .served (heard j s))) := by
  have h : exec (.passage b a v) s = .next (deliverPassage j v (heard j s)) :=
    congrArg Host.Outcome.next (deliverJunction_eq (.passage b a v) j s hj)
  rw [h, deliverPassage, byteOf_of_junctionOf hj]
  rfl

theorem exec_recordExpiry_of_due {s : State} {i : SlotId} {d : Time} (hd : (recordAt s i).map Record.expiry = some d)
    (h : 0 ≤ timeDiff s.time d) : exec (.recordExpiry i) s = .next (raise .expired (retire d i .expired s)) := by
  simp only [exec, execRecordExpiry, due_of_reached hd h]

theorem exec_recordRetire {s : State} (hfree : ¬Busy s) (n : RecordName) :
    exec (.recordRetire n) s =
      .next (taken s (.recordRetire n) (recordRetire n s).2.1 (recordRetire n s).2.2 (recordRetire n s).1) :=
  congrArg Host.Outcome.next (command_eq (.recordRetire n) s (isExecuting_of_not_busy s hfree))

theorem exec_recordRetire_of_ok {s : State} {n : RecordName} {i : SlotId} (hfree : ¬Busy s)
    (h : resolveName s true n = .ok i) :
    exec (.recordRetire n) s = .next (taken s (.recordRetire n) .ok [] (retire s.time i .retired s)) := by
  rw [exec_recordRetire hfree, recordRetire, h]

theorem exec_recordRetire_of_error {s : State} {n : RecordName} {c : ResponseCode} (hfree : ¬Busy s)
    (h : resolveName s true n = .error c) :
    exec (.recordRetire n) s = .next (taken s (.recordRetire n) c [] s) := by
  rw [exec_recordRetire hfree, recordRetire, h]

/-- Settles O23: each command finds the slot of its key, or none. -/
theorem retiringCommandsRetireTheirRecord : Obligations.RetiringCommandsRetireTheirRecord := by
  refine ⟨fun s v b a j hbounded hkeys hj => ⟨fun i hkey => ⟨?_, ?_, ?_, fun d hd h => ?_, fun hfree n hname => ?_⟩,
    fun hnone => ⟨?_, ?_, ?_, fun hfree n hmode hv hb => ?_⟩⟩, fun s i hnot => ?_, fun s v b hb => ⟨?_, ?_⟩⟩
  · rw [exec_checkOut, retireKey_of_holdsKey (s := received s) _ _ hbounded hkeys hkey]
    rfl
  · rw [exec_cancel, retireKey_of_holdsKey (s := received s) _ _ hbounded hkeys hkey]
    rfl
  · rw [exec_passage a v s hj, retireKey_of_holdsKey (s := heard j s) _ _ hbounded hkeys hkey]
  · exact exec_recordExpiry_of_due hd h
  · refine exec_recordRetire_of_ok hfree ?_
    rcases hname with ⟨hmode, rfl, rfl⟩ | ⟨hmode, hslot, hgen⟩
    · exact resolveName_of_key true hbounded hkeys hmode hkey
    · obtain ⟨r, hr, -⟩ := hkey
      rw [resolveName_of_slot true hmode hslot, if_neg]
      rintro (hvacant | ⟨-, hne⟩)
      · rw [hr] at hvacant
        cases hvacant
      · exact hne hgen.symm
  · rw [exec_checkOut, retireKey_of_unheld (s := received s) _ _ hnone]
    rfl
  · rw [exec_cancel, retireKey_of_unheld (s := received s) _ _ hnone]
    rfl
  · rw [exec_passage a v s hj, retireKey_of_unheld (s := heard j s) _ _ hnone]
  · subst hv hb
    exact exec_recordRetire_of_error hfree (resolveName_of_unheld true hmode hj hnone)
  · simp only [exec, execRecordExpiry, due_eq_none s.time _ hnot]
  · rw [exec_checkOut, retireKey_of_unheld (s := received s) _ _ (not_holdsKey_of_above hb v)]
    rfl
  · rw [exec_cancel, retireKey_of_unheld (s := received s) _ _ (not_holdsKey_of_above hb v)]
    rfl

end Sys2Proof.Proofs

/-! The fields of the bytes that the part sends (R149, R162): the listing (O58) and the record commands (O57). -/

namespace Sys2Proof.Proofs

open Sys2Proof.Machine Sys2Proof.Safety Sys2Proof.Laws

/-! ### Fields of a list of bytes (R149) -/

theorem field_append_right {l : List Byte} {o n : Nat} {v : Int} (h : Field l o n v) (q : List Byte) :
    Field (l ++ q) o n v := by
  obtain ⟨hlength, hv⟩ := h
  refine ⟨by rw [List.length_append]; omega, ?_⟩
  rw [List.drop_append_of_le_length (by omega), List.take_append_of_le_length (by rw [List.length_drop]; omega), hv]

theorem field_append_left {l : List Byte} {o n k : Nat} {v : Int} (h : Field l o n v) {p : List Byte}
    (hp : p.length = k) : Field (p ++ l) (k + o) n v := by
  obtain ⟨hlength, hv⟩ := h
  subst hp
  refine ⟨by rw [List.length_append]; omega, ?_⟩
  rw [List.drop_append, List.drop_eq_nil_of_le (by omega), List.nil_append, Nat.add_sub_cancel_left, hv]

/-- Equal-sized pieces behind each other: a field of a piece is one of the whole. -/
theorem field_flatMap {α : Type} {f : α → List Byte} {m : Nat} (hm : ∀ x, (f x).length = m) {o n : Nat} {v : Int} :
    ∀ {xs : List α} {k : Nat} {x : α}, xs[k]? = some x → Field (f x) o n v → Field (xs.flatMap f) (m * k + o) n v
  | [], _, _, hx, _ => by simp at hx
  | y :: ys, 0, x, hx, h => by
    rw [List.getElem?_cons_zero, Option.some.injEq] at hx
    subst hx
    rw [List.flatMap_cons, Nat.mul_zero, Nat.zero_add]
    exact field_append_right h _
  | y :: ys, k + 1, x, hx, h => by
    rw [List.getElem?_cons_succ] at hx
    have hstep : m * (k + 1) + o = m + (m * k + o) := by ring
    rw [List.flatMap_cons, hstep]
    exact field_append_left (field_flatMap hm hx h) (hm y)

theorem length_flatMap_const {α : Type} {f : α → List Byte} {m : Nat} (hm : ∀ x, (f x).length = m) (xs : List α) :
    (xs.flatMap f).length = m * xs.length := by
  induction xs with
  | nil => rfl
  | cons x xs ih => rw [List.flatMap_cons, List.length_append, hm, ih, List.length_cons, Nat.mul_succ, Nat.add_comm]

@[simp] theorem length_le16Nat (n : Nat) : (le16Nat n).length = 2 := rfl
@[simp] theorem length_le16Int (i : Int) : (le16Int i).length = 2 := rfl
@[simp] theorem length_le32 (t : Time) : (le32 t).length = 4 := rfl

/-- The bytes at an offset that hold a number are a field. -/
theorem field_of_chunk {l chunk : List Byte} {o n : Nat} {v : Int} (h : (l.drop o).take n = chunk)
    (hpos : 0 < n) (hlength : chunk.length = n) (hv : (valueOf chunk : Int) = v % 256 ^ n) : Field l o n v := by
  refine ⟨?_, by rw [h, hv]⟩
  have := congrArg List.length h
  rw [List.length_take, List.length_drop, hlength] at this
  omega

theorem field_of_byte {l : List Byte} {o : Nat} {b : Byte} (h : (l.drop o).take 1 = [b]) : Field l o 1 b.toNat := by
  refine field_of_chunk h Nat.one_pos rfl ?_
  have := b.isLt
  simp only [valueOf_cons, valueOf_nil]
  omega

theorem field_of_byteOf {l : List Byte} {o n : Nat} (h : (l.drop o).take 1 = [byteOf n]) : Field l o 1 n := by
  refine field_of_chunk h Nat.one_pos rfl ?_
  simp only [valueOf_cons, valueOf_nil, byteOf_toNat]
  omega

theorem field_of_half {l : List Byte} {o : Nat} {w : Half} (h : (l.drop o).take 2 = le16 w) : Field l o 2 w.toNat := by
  refine field_of_chunk h Nat.two_pos rfl ?_
  have := w.isLt
  rw [valueOf_le16]
  omega

theorem field_of_halfNat {l : List Byte} {o n : Nat} (h : (l.drop o).take 2 = le16Nat n) : Field l o 2 n := by
  refine field_of_chunk h Nat.two_pos rfl ?_
  rw [valueOf_le16Nat]
  omega

theorem field_of_halfInt {l : List Byte} {o : Nat} {i : Int} (h : (l.drop o).take 2 = le16Int i) : Field l o 2 i := by
  refine field_of_chunk h Nat.two_pos rfl ?_
  rw [valueOf_le16Int]
  rfl

theorem field_of_word {l : List Byte} {o : Nat} {t : Time} (h : (l.drop o).take 4 = le32 t) : Field l o 4 t.toNat := by
  refine field_of_chunk h (by decide) rfl ?_
  have := t.isLt
  rw [valueOf_le32]
  omega

theorem field_of_wordNat {l : List Byte} {o n : Nat} (h : (l.drop o).take 4 = le32 (BitVec.ofNat 32 n)) :
    Field l o 4 n := by
  refine field_of_chunk h (by decide) rfl ?_
  rw [valueOf_le32, BitVec.toNat_ofNat]
  omega

/-! ### The listing (R165) -/

theorem length_listEntryBytes (s : State) (i : SlotId) : (listEntryBytes s i).length = 6 := rfl

theorem listLayout_listBytes (s : State) (remaining : Nat) (count : Byte) (entries : List SlotId) :
    ListLayout s remaining count entries (listBytes s remaining count entries) := by
  have hentries : ((entries.flatMap (listEntryBytes s))).length = 6 * entries.length :=
    length_flatMap_const (length_listEntryBytes s) entries
  have hlength : (listBytes s remaining count entries).length = 3 + 6 * entries.length := by
    rw [listBytes, List.length_append, hentries]
    rfl
  have hentry : ∀ {n : Nat} {i : SlotId} {o m : Nat} {v : Int}, entries[n]? = some i →
      Field (listEntryBytes s i) o m v → Field (listBytes s remaining count entries) (3 + 6 * n + o) m v := by
    intro n i o m v hi h
    rw [Nat.add_assoc]
    exact field_append_left (field_flatMap (length_listEntryBytes s) hi h) (p := [byteOf remaining, count, byteOf entries.length]) rfl
  refine ⟨hlength, ?_, ?_, ?_, fun n i hi => ⟨?_, ?_, fun r hr => ⟨?_, ?_⟩⟩⟩
  · exact field_of_byteOf rfl
  · exact field_of_byte (b := count) rfl
  · exact field_of_byteOf rfl
  · exact hentry hi (field_of_byteOf (o := 0) (n := i.val) rfl)
  · exact hentry hi (field_of_byte (b := (slotAt s i).generation) rfl)
  · refine hentry hi (field_of_half (w := r.vehicle) ?_)
    rw [listEntryBytes, hr]
    rfl
  · refine hentry hi (field_of_halfNat (n := r.score) ?_)
    rw [listEntryBytes, hr]
    rfl

/-- Settles O58: the cursor decides the page, and the page is the order's. -/
theorem listingReadsTheCandidateOrder : Obligations.ListingReadsTheCandidateOrder := by
  intro b s hfree
  have hstart : exec (.listStart b) s = .next (taken s (.listStart b) (listStart b s).2.1 (listStart b s).2.2 (listStart b s).1) :=
    congrArg Host.Outcome.next (command_eq (.listStart b) s (isExecuting_of_not_busy s hfree))
  have hcontinue : exec .listContinue s =
      .next (taken s .listContinue (listContinue s).2.1 (listContinue s).2.2 (listContinue s).1) :=
    congrArg Host.Outcome.next (command_eq .listContinue s (isExecuting_of_not_busy s hfree))
  refine ⟨fun hb => ?_, fun j hj => ?_, fun hcursor => ?_, fun k hcursor => ⟨fun hstale => ?_, fun hcurrent => ?_⟩⟩
  · rw [hstart, listStart, junctionOf_of_above hb]
  · refine ⟨_, listLayout_listBytes .., ?_⟩
    rw [hstart, listStart, hj]
    rfl
  · rw [hcontinue, listContinue, hcursor]
  · rw [hcontinue, listContinue, hcursor]
    dsimp only
    rw [if_pos hstale]
  · refine ⟨_, listLayout_listBytes .., ?_⟩
    rw [hcontinue, listContinue, hcursor]
    dsimp only
    rw [if_neg (not_not.mpr hcurrent)]
    rfl

/-! ### The result of RECORD_LOOKUP (R162, R163) -/

theorem length_getD_map {α : Type} {f : α → List Byte} {d : List Byte} {n : Nat} (hf : ∀ x, (f x).length = n)
    (hd : d.length = n) (x : Option α) : ((x.map f).getD d).length = n := by
  cases x with
  | none => exact hd
  | some x => exact hf x

/-- The first 13 bytes of a record's answer: its key, class, state and distance. -/
def keyBytes (i : SlotId) (sl : Slot) (r : Record) : List Byte :=
  [byteOf i.val, sl.generation] ++ le16 r.vehicle
    ++ [byteOf r.junction.val, byteOf r.approach.val, classByte r.cls, statusByte r.status, reasonByte r.status,
      r.sequence, presenceByte r (tagOf r.status)]
    ++ le16Nat r.distance

/-- The next 7 bytes: the speed and the optional fields. -/
def optionBytes (free : Nat) (r : Record) : List Byte :=
  ((r.speed.map le16Nat).getD [0xFF, 0xFF])
    ++ ((r.dwell.map le16Nat).getD [Config.freeByte free, Config.freeByte (free + 1)])
    ++ ((r.deviation.map le16Int).getD [Config.freeByte (free + 2), Config.freeByte (free + 3)])
    ++ [(r.occupancy.map byteOf).getD (Config.freeByte (free + 4))]

/-- The next 12 bytes: the record's three times. -/
def timeBytes (r : Record) : List Byte := le32 r.checkInTime ++ le32 r.lastMessage ++ le32 r.expiry

/-- The last 3 bytes: the score and the grant tag. -/
def scoreBytes (free : Nat) (r : Record) : List Byte :=
  le16Nat r.score ++ [(tagOf r.status).getD (Config.freeByte (free + 5))]

theorem lookupBytes_eq (free : Nat) (i : SlotId) (sl : Slot) (r : Record) :
    lookupBytes free i sl r =
      keyBytes i sl r ++ (optionBytes free r ++ (timeBytes r
        ++ (forecastBytes r.forecast ++ (decisionBytes r.decision ++ scoreBytes free r)))) := by
  simp only [lookupBytes, keyBytes, optionBytes, timeBytes, scoreBytes, List.append_assoc]

theorem length_keyBytes (i : SlotId) (sl : Slot) (r : Record) : (keyBytes i sl r).length = 13 := rfl

theorem length_speed_option (r : Record) : ((r.speed.map le16Nat).getD [0xFF, 0xFF]).length = 2 :=
  length_getD_map length_le16Nat rfl r.speed

theorem length_dwell_option (r : Record) (a b : Byte) : ((r.dwell.map le16Nat).getD [a, b]).length = 2 :=
  length_getD_map length_le16Nat rfl r.dwell

theorem length_deviation_option (r : Record) (a b : Byte) : ((r.deviation.map le16Int).getD [a, b]).length = 2 :=
  length_getD_map length_le16Int rfl r.deviation

theorem length_optionBytes (free : Nat) (r : Record) : (optionBytes free r).length = 7 := by
  simp only [optionBytes, List.length_append, length_speed_option, length_dwell_option, length_deviation_option]
  rfl

theorem length_timeBytes (r : Record) : (timeBytes r).length = 12 := rfl

theorem length_forecastBytes (x : Option Forecast) : (forecastBytes x).length = 14 := by
  rcases x with _ | (_ | _ | _ | _) <;> rfl

theorem length_amountBytes (k : DecisionKind) : (amountBytes k).length = 3 := by
  cases k <;> rfl

theorem length_decisionBytes (x : Option Decision) : (decisionBytes x).length = 8 := by
  cases x with
  | none => rfl
  | some d => simp only [decisionBytes, List.length_append, List.length_cons, length_amountBytes, length_le32]

theorem length_scoreBytes (free : Nat) (r : Record) : (scoreBytes free r).length = 3 := rfl

theorem length_lookupBytes (free : Nat) (i : SlotId) (sl : Slot) (r : Record) :
    (lookupBytes free i sl r).length = 57 := by
  simp only [lookupBytes_eq, List.length_append, length_keyBytes, length_optionBytes, length_timeBytes,
    length_forecastBytes, length_decisionBytes, length_scoreBytes]

section

variable {free : Nat} {i : SlotId} {sl : Slot} {r : Record} {o n : Nat} {v : Int}

theorem field_lookup_key (h : Field (keyBytes i sl r) o n v) : Field (lookupBytes free i sl r) o n v := by
  rw [lookupBytes_eq]
  exact field_append_right h _

theorem field_lookup_option (h : Field (optionBytes free r) o n v) : Field (lookupBytes free i sl r) (13 + o) n v := by
  rw [lookupBytes_eq]
  exact field_append_left (field_append_right h _) (length_keyBytes i sl r)

/-- A field of what follows the key and the optional fields. -/
theorem field_lookup_rest
    (h : Field (timeBytes r ++ (forecastBytes r.forecast ++ (decisionBytes r.decision ++ scoreBytes free r))) o n v) :
    Field (lookupBytes free i sl r) (20 + o) n v := by
  rw [lookupBytes_eq, ← List.append_assoc]
  refine field_append_left h ?_
  rw [List.length_append, length_keyBytes, length_optionBytes]

theorem field_lookup_time (h : Field (timeBytes r) o n v) : Field (lookupBytes free i sl r) (20 + o) n v :=
  field_lookup_rest (field_append_right h _)

theorem field_lookup_forecast (h : Field (forecastBytes r.forecast) o n v) :
    Field (lookupBytes free i sl r) (32 + o) n v := by
  have := field_lookup_rest (free := free) (i := i) (sl := sl)
    (field_append_left (field_append_right h (decisionBytes r.decision ++ scoreBytes free r)) (length_timeBytes r))
  rwa [← Nat.add_assoc] at this

/-- A field of what follows the forecast. -/
theorem field_lookup_end (h : Field (decisionBytes r.decision ++ scoreBytes free r) o n v) :
    Field (lookupBytes free i sl r) (46 + o) n v := by
  have := field_lookup_rest (free := free) (i := i) (sl := sl)
    (field_append_left (field_append_left h (length_forecastBytes r.forecast)) (length_timeBytes r))
  rwa [← Nat.add_assoc, ← Nat.add_assoc] at this

theorem field_lookup_decision (h : Field (decisionBytes r.decision) o n v) :
    Field (lookupBytes free i sl r) (46 + o) n v := field_lookup_end (field_append_right h _)

theorem field_lookup_score (h : Field (scoreBytes free r) o n v) : Field (lookupBytes free i sl r) (54 + o) n v := by
  have := field_lookup_end (free := free) (i := i) (sl := sl)
    (field_append_left h (length_decisionBytes r.decision))
  rwa [← Nat.add_assoc] at this

end

/-- Eight flags summed up as one byte can be read back. -/
theorem getLsbD_flags (a b c d e f g h : Bool) :
    let x := byteOf ((if a then 1 else 0) + (if b then 2 else 0) + (if c then 4 else 0) + (if d then 8 else 0)
      + (if e then 16 else 0) + (if f then 32 else 0) + (if g then 64 else 0) + (if h then 128 else 0))
    x.getLsbD 0 = a ∧ x.getLsbD 1 = b ∧ x.getLsbD 2 = c ∧ x.getLsbD 3 = d ∧ x.getLsbD 4 = e ∧ x.getLsbD 5 = f
      ∧ x.getLsbD 6 = g ∧ x.getLsbD 7 = h := by
  revert a b c d e f g h
  decide

theorem field_code {l : List Byte} {o : Nat} {b : Byte} {v : Int} (h : (l.drop o).take 1 = [b])
    (hv : (b.toNat : Int) = v) : Field l o 1 v := hv ▸ field_of_byte h

theorem recordLayout_lookupBytes (free : Nat) (i : SlotId) (sl : Slot) (r : Record) :
    RecordLayout i sl r (lookupBytes free i sl r) := by
  refine ⟨field_lookup_key (field_of_byteOf rfl), field_lookup_key (field_of_byte rfl), field_lookup_key (field_of_half rfl),
    field_lookup_key (field_of_byteOf rfl), field_lookup_key (field_of_byteOf rfl),
    field_lookup_key (field_code (b := classByte r.cls) rfl ?_), field_lookup_key (field_code (b := statusByte r.status) rfl ?_),
    field_lookup_key (field_code (b := reasonByte r.status) rfl ?_), field_lookup_key (field_of_byte rfl),
    ⟨presenceByte r (tagOf r.status), ?_, getLsbD_flags ..⟩, field_lookup_key (field_of_halfNat rfl),
    field_lookup_option (o := 0) ?_, fun w hw => field_lookup_option (o := 2) ?_, fun d hd => field_lookup_option (o := 4) ?_,
    fun x hx => field_lookup_option (o := 6) ?_, field_lookup_time (o := 0) (field_of_word rfl),
    field_lookup_time (o := 4) (field_of_word rfl), field_lookup_time (o := 8) (field_of_word rfl),
    field_lookup_score (o := 0) (field_of_halfNat rfl),
    fun tag htag => field_lookup_score (o := 2) (field_of_byte ?_)⟩
  · cases r.cls <;> rfl
  · cases r.status <;> rfl
  · rcases r.status with _ | (_ | _ | _ | _ | _ | _ | _ | _) | _ | _ | _ | (_ | _) <;> rfl
  · rw [lookupBytes_eq]
    rfl
  · refine field_append_right (field_append_right (field_append_right ?_ _) _) _
    cases r.speed with
    | none => exact field_of_halfNat (n := 0xFFFF) rfl
    | some v => exact field_of_halfNat (n := v) rfl
  · refine field_append_right (field_append_right (field_append_left (o := 0) ?_ (length_speed_option r)) _) _
    rw [hw]
    exact field_of_halfNat rfl
  · refine field_append_right (field_append_left (o := 0) (k := 4) ?_ (by rw [List.length_append, length_speed_option, length_dwell_option])) _
    rw [hd]
    exact field_of_halfInt rfl
  · refine field_append_left (o := 0) (k := 6) ?_ (by
      rw [List.length_append, List.length_append, length_speed_option, length_dwell_option, length_deviation_option])
    rw [hx]
    exact field_of_byteOf rfl
  · rw [scoreBytes, htag]
    rfl

theorem resultLayout_lookupBytes (free : Nat) (i : SlotId) (sl : Slot) (r : Record) :
    ResultLayout r (lookupBytes free i sl r) := by
  refine ⟨field_lookup_forecast (o := 0) ?_, field_lookup_forecast (o := 1) ?_, field_lookup_forecast (o := 5) ?_,
    field_lookup_forecast (o := 9) ?_, field_lookup_forecast (o := 11) ?_, field_lookup_forecast (o := 13) ?_,
    field_lookup_decision (o := 0) ?_, field_lookup_decision (o := 1) ?_, field_lookup_decision (o := 3) ?_,
    field_lookup_decision (o := 4) ?_⟩
  · rcases r.forecast with _ | (_ | _ | _ | _) <;> exact field_code (by rfl) rfl
  · rcases r.forecast with _ | (_ | _ | _ | _)
    · exact field_of_wordNat (n := 0) rfl
    all_goals exact field_of_word (by rfl)
  · rcases r.forecast with _ | (_ | _ | _ | _)
    · exact field_of_wordNat (n := 0xFFFFFFFF) rfl
    · exact field_of_wordNat (by rfl)
    · exact field_of_wordNat (by rfl)
    · exact field_of_wordNat (by rfl)
    · exact field_of_wordNat (n := 0xFFFFFFFF) rfl
  · rcases r.forecast with _ | (_ | _ | _ | _)
    · exact field_of_halfNat (n := 0xFFFF) rfl
    · exact field_of_halfNat (by rfl)
    · exact field_of_halfNat (by rfl)
    · exact field_of_halfNat (n := 0xFFFF) rfl
    · exact field_of_halfNat (n := 0xFFFF) rfl
  · rcases r.forecast with _ | (_ | _ | _ | _)
    · exact field_of_halfNat (n := 0xFFFF) rfl
    · exact field_of_halfNat (by rfl)
    · exact field_of_halfNat (by rfl)
    · exact field_of_halfNat (n := 0xFFFF) rfl
    · exact field_of_halfNat (n := 0xFFFF) rfl
  · rcases r.forecast with _ | (⟨_, _, _, _, src⟩ | ⟨_, _, _, _, src⟩ | ⟨_, _, src⟩ | _)
    · exact field_code (b := 0xFF) rfl rfl
    · exact field_code (b := sourceByte src) rfl (by cases src <;> rfl)
    · exact field_code (b := sourceByte src) rfl (by cases src <;> rfl)
    · exact field_code (b := sourceByte src) rfl (by cases src <;> rfl)
    · exact field_code (b := 0xFF) rfl rfl
  · rcases r.decision with _ | ⟨_ | _ | _ | _ | _ | _, _⟩ <;> exact field_code (by rfl) rfl
  · rcases r.decision with _ | ⟨_ | _ | _ | _ | _ | _, _⟩
    · exact field_of_halfNat (n := 0) rfl
    · exact field_of_halfNat (n := 0) rfl
    · exact field_of_halfNat (by rfl)
    · exact field_of_halfNat (by rfl)
    all_goals exact field_of_halfNat (n := 0) rfl
  · rcases r.decision with _ | ⟨_ | ⟨_, p⟩ | ⟨_, p⟩ | _ | _ | _, _⟩
    · exact field_code (b := 0xFF) rfl rfl
    · exact field_code (b := 0xFF) rfl rfl
    · exact field_code (b := flagByte p) rfl (by cases p <;> rfl)
    · exact field_code (b := flagByte p) rfl (by cases p <;> rfl)
    all_goals exact field_code (b := 0xFF) rfl rfl
  · rcases r.decision with _ | ⟨_ | _ | _ | _ | _ | _, _⟩
    · exact field_of_wordNat (n := 0) rfl
    all_goals exact field_of_word (by rfl)

/-! ### The record commands (R42, R163) -/

section

variable {s : State} {n : RecordName}

theorem exec_recordLookup (hfree : ¬Busy s) (n : RecordName) :
    exec (.recordLookup n) s =
      .next (taken s (.recordLookup n) (recordLookup n s).2.1 (recordLookup n s).2.2 (recordLookup n s).1) :=
  congrArg Host.Outcome.next (command_eq (.recordLookup n) s (isExecuting_of_not_busy s hfree))

theorem exec_recordForce (hfree : ¬Busy s) (n : RecordName) :
    exec (.recordForce n) s =
      .next (taken s (.recordForce n) (recordForce n s).2.1 (recordForce n s).2.2 (recordForce n s).1) :=
  congrArg Host.Outcome.next (command_eq (.recordForce n) s (isExecuting_of_not_busy s hfree))

theorem exec_recordForce_of_error {c : ResponseCode} (hfree : ¬Busy s) (h : resolveName s true n = .error c) :
    exec (.recordForce n) s = .next (taken s (.recordForce n) c [] s) := by
  rw [exec_recordForce hfree, recordForce, h]

theorem exec_recordLookup_of_error {c : ResponseCode} (hfree : ¬Busy s) (h : resolveName s false n = .error c) :
    exec (.recordLookup n) s = .next (taken s (.recordLookup n) c [] s) := by
  rw [exec_recordLookup hfree, recordLookup, h]

end

/-- A name that finds no record, and what answers it (R163). -/
theorem resolveName_of_nothing {s : State} {n : RecordName} {code : ResponseCode} (strict : Bool)
    (h : (1 < n.mode.toNat ∧ code = .badField)
        ∨ (n.mode = 0#8 ∧ 15 < n.junction.toNat ∧ code = .badJunction)
        ∨ (n.mode = 0#8 ∧ n.junction.toNat ≤ 15 ∧ (∀ i, ¬HoldsKey s i n.vehicle n.junction) ∧ code = .noRecord)
        ∨ (n.mode = 1#8 ∧ 95 < n.slot.toNat ∧ code = .badField)
        ∨ (∃ i : SlotId, n.mode = 1#8 ∧ n.slot.toNat = i.val ∧ recordAt s i = none ∧ code = .noRecord)) :
    resolveName s strict n = .error code := by
  rcases h with ⟨hmode, rfl⟩ | ⟨hmode, hj, rfl⟩ | ⟨hmode, hj, hnone, rfl⟩ | ⟨hmode, hslot, rfl⟩ |
    ⟨i, hmode, hslot, hvacant, rfl⟩
  · exact resolveName_of_badMode strict hmode
  · exact resolveName_of_badJunction strict hmode hj
  · exact resolveName_of_unheld (j := ⟨n.junction.toNat, by omega⟩) strict hmode (junctionOf_eq_some_iff.mpr rfl) hnone
  · exact resolveName_of_badSlot strict hmode hslot
  · rw [resolveName_of_slot strict hmode hslot, if_pos (.inl (by rw [hvacant]; rfl))]

/-- A name that finds the record of slot i: by its key, or by the slot, with its generation where the name is read
strictly (R163). -/
theorem resolveName_of_record {s : State} {i : SlotId} {r : Record} {n : RecordName} (strict : Bool)
    (hbounded : RecordsBounded s) (hkeys : KeysDiffer s) (hr : recordAt s i = some r)
    (hname : (n.mode = 0#8 ∧ HoldsKey s i n.vehicle n.junction) ∨ (n.mode = 1#8 ∧ n.slot.toNat = i.val))
    (hgen : strict = true → n.mode = 0#8 ∨ n.generation = (slotAt s i).generation) :
    resolveName s strict n = .ok i := by
  rcases hname with ⟨hmode, hkey⟩ | ⟨hmode, hslot⟩
  · exact resolveName_of_key strict hbounded hkeys hmode hkey
  · rw [resolveName_of_slot strict hmode hslot, if_neg]
    rintro (hvacant | ⟨hstrict, hne⟩)
    · rw [hr] at hvacant
      cases hvacant
    · rcases hgen hstrict with hzero | hsame
      · rw [hmode] at hzero
        exact absurd hzero (by decide)
      · exact hne hsame.symm

/-- Settles O57: a name finds one slot or gives its answer, and the forced record's candidacy decides the move. -/
theorem recordCommandsFindTheirRecord : Obligations.RecordCommandsFindTheirRecord := by
  intro n s hfree hbounded hkeys
  refine ⟨fun code h => ⟨exec_recordLookup_of_error hfree (resolveName_of_nothing false h),
    exec_recordRetire_of_error hfree (resolveName_of_nothing true h),
    exec_recordForce_of_error hfree (resolveName_of_nothing true h)⟩, fun i r hr hname => ⟨?_, fun hmode hne => ?_, fun hgen => ?_⟩⟩
  · have hfound := resolveName_of_record false hbounded hkeys hr hname nofun
    refine ⟨_, length_lookupBytes s.freeCount i (slotAt s i) r, recordLayout_lookupBytes .., resultLayout_lookupBytes .., ?_⟩
    rw [exec_recordLookup hfree, recordLookup, hfound]
    dsimp only
    rw [hr]
  · have hmissed : resolveName s true n = .error .noRecord := by
      rcases hname with ⟨hzero, -⟩ | ⟨-, hslot⟩
      · rw [hmode] at hzero
        exact absurd hzero (by decide)
      · rw [resolveName_of_slot true hmode hslot, if_pos (.inr ⟨rfl, hne.symm⟩)]
    exact ⟨exec_recordRetire_of_error hfree hmissed, exec_recordForce_of_error hfree hmissed⟩
  · have hfound := resolveName_of_record true hbounded hkeys hr hname fun _ => hgen
    have hforced : recordForce n s = (forceRecord s.time i r s, .ok, []) := by
      rw [recordForce, hfound]
      dsimp only
      rw [hr]
    rw [exec_recordForce hfree, hforced, forceRecord, onRecord_of_some _ hr]
    exact congrArg (fun t => Host.Outcome.next (taken s (.recordForce n) .ok [] t))
      ((rescored_eq s.time r.junction i r { r with cls := .forced, score := 1023 } s).trans
        (if_congr (and_congr_right fun _ => ne_comm) rfl rfl))

end Sys2Proof.Proofs

/-! What the reading commands answer: SEGMENT_READ, JUNCTION_QUERY and PLAN_READ (O52, O53). -/

namespace Sys2Proof.Proofs

open Sys2Proof.Machine Sys2Proof.Safety Sys2Proof.Laws

/-! ### Codes of one byte (R162) -/

theorem field_flag {l : List Byte} {o : Nat} {b : Bool} (h : (l.drop o).take 1 = [flagByte b]) :
    Field l o 1 (if b then 1 else 0) := field_code h (by cases b <;> rfl)

theorem field_absent {α : Type} {l : List Byte} {o : Nat} {f : α → Byte} {g : α → Int} {x : Option α}
    (h : (l.drop o).take 1 = [codeOr f x]) (hf : ∀ a, Field [f a] 0 1 (g a)) : Field l o 1 (x.elim 0xFF g) := by
  have hx : Field [codeOr f x] 0 1 (x.elim 0xFF g) := by
    cases x with
    | none => exact field_code (b := 0xFF) rfl rfl
    | some a => exact hf a
  exact field_of_chunk h Nat.one_pos rfl hx.2

/-! ### SEGMENT_READ (R140) -/

theorem segmentLayout_segmentBytes (k : SegmentId) (g : Segment) : SegmentLayout k g (segmentBytes k g) := by
  refine ⟨rfl, field_code (b := segmentStateByte g.state) rfl ?_, field_of_byteOf rfl, field_of_byteOf rfl,
    field_of_byteOf rfl, field_of_halfNat rfl, field_of_halfNat rfl, field_of_halfNat rfl, field_of_halfNat rfl,
    field_of_halfNat rfl, field_of_byteOf rfl, field_of_word rfl, ?_⟩
  · cases g.state <;> rfl
  · have hdeadline := field_of_word (l := segmentBytes k g) (o := 19) (t := (staleDeadline g).getD 0) rfl
    revert hdeadline
    rw [staleDeadline]
    cases g.state <;> exact id

/-! ### JUNCTION_QUERY (R163) -/

/-- The first 20 bytes of a junction's answer: its link, its plans and its clock. -/
def clockBytes (now : Time) (c : Junction) : List Byte :=
  [flagByte (isLive c), codeOr darkReasonByte (darkReasonOf c.sync), codeOr localModeByte c.localMode,
      flagByte c.liveness.isSome, (planIdOf c.activePlan).getD 0, (planIdOf c.stagedPlan).getD 0]
    ++ le32 (c.lastCycleStart.getD 0) ++ le16Nat (positionAt now c) ++ [c.cycleCount, codeOr byteOf c.currentStep]
    ++ le32 (c.stepStart.getD 0) ++ le16Int c.adjustment

/-- The next 11 bytes: its grant. -/
def grantBytes (c : Junction) : List Byte :=
  [grantModeByte (modeOf c), codeOr (fun g : Grant => byteOf g.slot.val) c.grant, codeOr Grant.generation c.grant,
      codeOr (fun g : Grant => byteOf g.step) c.grant, codeOr (fun g : Grant => grantKindByte g.kind) c.grant]
    ++ le16Nat ((c.grant.map Grant.amount).getD 0) ++ le32 ((c.grant.map Grant.offerTime).getD 0)

/-- The next 6 bytes: its recovery and its order. -/
def recoveryBytes (c : Junction) : List Byte :=
  le16Int c.debt ++ [byteOf c.lockout, flagByte c.suspended, byteOf c.candidates.length, c.changeCount]

/-- The last 9 bytes: its last-served summary. -/
def summaryBytes (c : Junction) : List Byte :=
  le16 ((c.lastServed.map Summary.vehicle).getD 0) ++ [codeOr (fun m : Summary => grantKindByte m.kind) c.lastServed]
    ++ le16Nat ((c.lastServed.map Summary.amount).getD 0) ++ le32 ((c.lastServed.map Summary.arrival).getD 0)

theorem queryBytes_eq (now : Time) (c : Junction) :
    queryBytes now c = clockBytes now c ++ (grantBytes c ++ (recoveryBytes c ++ summaryBytes c)) := by
  simp only [queryBytes, clockBytes, grantBytes, recoveryBytes, summaryBytes, List.append_assoc, List.cons_append,
    List.nil_append]

theorem length_queryBytes (now : Time) (c : Junction) : (queryBytes now c).length = 46 := by
  have hclock : (clockBytes now c).length = 20 := rfl
  have hgrant : (grantBytes c).length = 11 := rfl
  have hrecovery : (recoveryBytes c).length = 6 := rfl
  have hsummary : (summaryBytes c).length = 9 := rfl
  simp only [queryBytes_eq, List.length_append, hclock, hgrant, hrecovery, hsummary]

section

variable {now : Time} {c : Junction} {o n : Nat} {v : Int}

theorem field_query_clock (h : Field (clockBytes now c) o n v) : Field (queryBytes now c) o n v := by
  rw [queryBytes_eq]
  exact field_append_right h _

theorem field_query_grant (h : Field (grantBytes c) o n v) : Field (queryBytes now c) (20 + o) n v := by
  rw [queryBytes_eq]
  exact field_append_left (field_append_right h _) rfl

theorem field_query_recovery (h : Field (recoveryBytes c) o n v) : Field (queryBytes now c) (31 + o) n v := by
  rw [queryBytes_eq, ← List.append_assoc]
  exact field_append_left (field_append_right h _) rfl

theorem field_query_summary (h : Field (summaryBytes c) o n v) : Field (queryBytes now c) (37 + o) n v := by
  rw [queryBytes_eq, ← List.append_assoc, ← List.append_assoc]
  exact field_append_left h rfl

end

/-- A time, or 0 where it is absent. -/
theorem field_timeOr {l : List Byte} {o : Nat} {x : Option Time} (h : (l.drop o).take 4 = le32 (x.getD 0)) :
    Field l o 4 (x.elim 0 fun t => t.toNat) := by
  cases x <;> exact field_of_word h

/-- A time of a part, or 0 where the part is absent. -/
theorem field_wordOr {α : Type} {l : List Byte} {o : Nat} {f : α → Time} {x : Option α}
    (h : (l.drop o).take 4 = le32 ((x.map f).getD 0)) : Field l o 4 (x.elim 0 fun a => (f a).toNat) := by
  cases x <;> exact field_of_word h

/-- A number of two bytes, or 0 where it is absent. -/
theorem field_halfOr {α : Type} {l : List Byte} {o : Nat} {f : α → Nat} {x : Option α}
    (h : (l.drop o).take 2 = le16Nat ((x.map f).getD 0)) : Field l o 2 (x.elim 0 fun a => (f a : Int)) := by
  cases x <;> exact field_of_halfNat h

/-- A plan id, or 0 where the slot is empty. -/
theorem field_planId {l : List Byte} {o : Nat} {x : Option Plan} (h : (l.drop o).take 1 = [(planIdOf x).getD 0]) :
    Field l o 1 (x.elim 0 fun p => p.planId.toNat) := by
  cases x <;> exact field_of_byte h

/-- The cycle position as R6 measures it, not below 0. -/
def positionValue (now : Time) (c : Junction) : Int :=
  match c.sync, c.lastCycleStart with
  | .live _, some t => max 0 (timeDiff now t)
  | _, _ => c.frozenPosition

theorem positionAt_eq (now : Time) (c : Junction) : (positionAt now c : Int) = positionValue now c := by
  unfold positionAt positionValue
  cases c.sync with
  | dark d => rfl
  | live t =>
    cases c.lastCycleStart with
    | none => rfl
    | some t => exact (Int.toNat_eq_max _).trans (max_comm _ _)

theorem grantKindByte_toNat (k : GrantKind) : ((grantKindByte k).toNat : Int) = kindCode k := by
  cases k <;> rfl

theorem queryLayout_queryBytes (now : Time) (c : Junction) : QueryLayout now c (queryBytes now c) := by
  refine ⟨length_queryBytes now c, field_query_clock (field_code (b := flagByte (isLive c)) rfl ?_),
    field_query_clock (field_code (b := codeOr darkReasonByte (darkReasonOf c.sync)) rfl ?_),
    field_query_clock (field_absent (f := localModeByte) (x := c.localMode) rfl ?_), field_query_clock (field_flag rfl),
    field_query_clock (field_planId rfl), field_query_clock (field_planId rfl), field_query_clock ?_,
    field_query_clock ?_, field_query_clock (field_of_byte (b := c.cycleCount) rfl),
    field_query_clock (field_absent (f := byteOf) (x := c.currentStep) rfl fun k => field_of_byteOf rfl),
    field_query_clock ?_, field_query_clock (field_of_halfInt rfl),
    field_query_grant (o := 0) (field_code (b := grantModeByte (modeOf c)) rfl ?_),
    field_query_grant (o := 1) (field_absent (f := fun g : Grant => byteOf g.slot.val) (x := c.grant) rfl fun g => field_of_byteOf rfl),
    field_query_grant (o := 2) (field_absent (f := Grant.generation) (x := c.grant) rfl fun g => field_of_byte rfl),
    field_query_grant (o := 3) (field_absent (f := fun g : Grant => byteOf g.step) (x := c.grant) rfl fun g => field_of_byteOf rfl),
    field_query_grant (o := 4) (field_absent (f := fun g : Grant => grantKindByte g.kind) (x := c.grant) rfl
      fun g => field_code (b := grantKindByte g.kind) rfl (grantKindByte_toNat g.kind)),
    field_query_grant (o := 5) (field_halfOr (f := Grant.amount) rfl), field_query_grant (o := 7) (field_wordOr (f := Grant.offerTime) rfl),
    field_query_recovery (o := 0) (field_of_halfInt rfl), field_query_recovery (o := 2) (field_of_byteOf rfl),
    field_query_recovery (o := 3) (field_flag rfl), field_query_recovery (o := 4) (field_of_byteOf rfl),
    field_query_recovery (o := 5) (field_of_byte (b := c.changeCount) rfl), field_query_summary (o := 0) ?_,
    field_query_summary (o := 2) (field_absent (f := fun m : Summary => grantKindByte m.kind) (x := c.lastServed) rfl
      fun m => field_code (b := grantKindByte m.kind) rfl (grantKindByte_toNat m.kind)),
    field_query_summary (o := 3) (field_halfOr (f := Summary.amount) rfl),
    field_query_summary (o := 5) (field_wordOr (f := Summary.arrival) rfl)⟩
  · cases hsync : c.sync <;> simp only [isLive, hsync] <;> rfl
  · rcases c.sync with (_ | _ | _ | _ | _ | _) | _ <;> rfl
  · exact fun m => field_code (b := localModeByte m) rfl (by cases m <;> rfl)
  · exact field_timeOr rfl
  · have hposition : Field (clockBytes now c) 10 2 (positionAt now c) := field_of_halfNat rfl
    have hvalue : ((positionAt now c : Nat) : Int) = positionValue now c := positionAt_eq now c
    rw [hvalue] at hposition
    exact hposition
  · exact field_timeOr rfl
  · rw [modeOf]
    rcases c.grant with _ | g
    · rfl
    · cases haccepted : g.accepted <;> cases hkind : g.kind <;> simp [haccepted, hkind, kindCode, grantModeByte]
  · have hvehicle : Field (summaryBytes c) 0 2 ((c.lastServed.map Summary.vehicle).getD 0).toNat := field_of_half rfl
    revert hvehicle
    generalize summaryBytes c = l
    cases c.lastServed <;> exact id

theorem exec_of_command {i : Instr} {c : Command} {s : State} (hi : exec i s = .next (command c s)) (hfree : ¬Busy s)
    {code : ResponseCode} {result : List Byte} {t : State} (hact : act c s = (t, code, result)) :
    exec i s = .next (taken s c code result t) := by
  rw [hi, command_eq c s (isExecuting_of_not_busy s hfree), hact]

/-- Settles O53: each operand is in its range, or answers for itself, and the answer's bytes are R162's. -/
theorem readCommandsAnswerByTheirOperands : Obligations.ReadCommandsAnswerByTheirOperands := by
  intro a b s hfree
  have hplan : ∀ {code : ResponseCode} {result : List Byte}, planRead a b s = (code, result) →
      exec (.planRead a b) s = .next (taken s (.planRead a b) code result s) :=
    fun h => exec_of_command rfl hfree (congrArg (Prod.mk s) h)
  have hquery : ∀ {code : ResponseCode} {result : List Byte}, junctionQuery a s = (code, result) →
      exec (.junctionQuery a) s = .next (taken s (.junctionQuery a) code result s) :=
    fun h => exec_of_command rfl hfree (congrArg (Prod.mk s) h)
  have hsegment : ∀ {code : ResponseCode} {result : List Byte}, segmentRead a s = (code, result) →
      exec (.segmentRead a) s = .next (taken s (.segmentRead a) code result s) :=
    fun h => exec_of_command rfl hfree (congrArg (Prod.mk s) h)
  refine ⟨fun ha => ⟨hplan ?_, hquery ?_⟩, fun j hj => ⟨fun hb => hplan ?_, fun hb hnone => hplan ?_, fun hb hnone => hplan ?_,
    ⟨_, queryLayout_queryBytes .., hquery ?_⟩⟩, fun ha => hsegment ?_, fun k hk => ⟨fun hnone => hsegment ?_, fun g hg =>
    ⟨_, segmentLayout_segmentBytes k g, hsegment ?_⟩⟩⟩
  · rw [planRead, junctionOf_of_above ha]
  · rw [junctionQuery, junctionOf_of_above ha]
  · have h0 : b ≠ 0#8 := by rintro rfl; revert hb; decide
    have h1 : b ≠ 1#8 := by rintro rfl; revert hb; decide
    rw [planRead, hj]
    dsimp only
    rw [if_neg h0, if_neg h1]
  · rw [planRead, hj]
    dsimp only
    rw [if_pos hb, hnone]
  · rw [planRead, hj]
    dsimp only
    rw [if_neg (by rw [hb]; decide), if_pos hb, hnone]
  · rw [junctionQuery, hj]
  · rw [segmentRead, segmentOf_of_above ha]
  · rw [segmentRead, segmentOf_of_toNat hk]
    dsimp only
    rw [hnone]
  · rw [segmentRead, segmentOf_of_toNat hk]
    dsimp only
    rw [hg]

/-! ### Fields read from a body (R149, R162) -/

theorem field_byteAt {l : List Byte} {o : Nat} (h : o < l.length) : Field l o 1 (byteAt l o).toNat :=
  (field_byte l o _).mpr ⟨h, rfl⟩

theorem field_halfAt {l : List Byte} {o : Nat} (h : o + 1 < l.length) : Field l o 2 (halfAt l o).toNat :=
  (field_half l o _).mpr ⟨h, rfl⟩

/-- The byte at an offset is the number of the field there. -/
theorem byteAt_of_field {l : List Byte} {o n : Nat} (h : Field l o 1 n) (hn : n < 256) : (byteAt l o).toNat = n := by
  have hb : Field l o 1 (BitVec.ofNat 8 n).toNat := by rwa [BitVec.toNat_ofNat, Nat.mod_eq_of_lt hn]
  rw [((field_byte l o _).mp hb).2, BitVec.toNat_ofNat, Nat.mod_eq_of_lt hn]

/-- The half word at an offset is the number of the field there. -/
theorem halfAt_of_field {l : List Byte} {o n : Nat} (h : Field l o 2 n) (hn : n < 65536) : (halfAt l o).toNat = n := by
  have hb : Field l o 2 (BitVec.ofNat 16 n).toNat := by rwa [BitVec.toNat_ofNat, Nat.mod_eq_of_lt hn]
  rw [((field_half l o _).mp hb).2, BitVec.toNat_ofNat, Nat.mod_eq_of_lt hn]

/-! ### The body of a plan (R21, R162) -/

theorem planBodyLayout_planBodyOf {l : List Byte} (h : l.length = 93) : PlanBodyLayout (planBodyOf l) l := by
  refine ⟨field_byteAt (by omega), field_byteAt (by omega), field_halfAt (by omega), field_byteAt (by omega), fun k => ?_,
    fun q => ?_⟩
  · have hk := k.isLt
    have hstep : (planBodyOf l).steps[k] =
        { phase := byteAt l (5 + 10 * k.val), split := halfAt l (5 + 10 * k.val + 1),
          minGreen := halfAt l (5 + 10 * k.val + 3), guarded := byteAt l (5 + 10 * k.val + 5),
          maxExtension := halfAt l (5 + 10 * k.val + 6), maxAdvance := halfAt l (5 + 10 * k.val + 8) } := by
      simp [planBodyOf]
    dsimp only
    rw [hstep]
    exact ⟨field_byteAt (by omega), field_halfAt (by omega), field_halfAt (by omega), field_byteAt (by omega),
      field_halfAt (by omega), field_halfAt (by omega)⟩
  · have hq := q.isLt
    have hentry : (planBodyOf l).approaches[q] =
        { priority := byteAt l (85 + 2 * q.val), feeding := byteAt l (86 + 2 * q.val) } := by
      simp [planBodyOf]
    rw [hentry]
    exact ⟨field_byteAt (by omega), field_byteAt (by omega)⟩

theorem length_stepBytes (x : Option PlanStep) : (stepBytes x).length = 10 := by
  cases x <;> rfl

theorem length_approachBytes (a : ApproachEntry) : (approachBytes a).length = 2 := rfl

/-- The first 5 bytes of a plan's body. -/
def planHead (j : JunctionId) (p : Plan) : List Byte :=
  [byteOf j.val, p.planId] ++ le16Nat p.cycle ++ [byteOf p.steps.length]

theorem planBytes_eq (j : JunctionId) (p : Plan) :
    planBytes j p = planHead j p
      ++ ((List.range 8).flatMap (fun k => stepBytes p.steps[k]?) ++ p.approaches.toList.flatMap approachBytes) := by
  simp only [planBytes, planHead, List.append_assoc]

theorem length_steps_bytes (p : Plan) : ((List.range 8).flatMap fun k => stepBytes p.steps[k]?).length = 80 :=
  length_flatMap_const (fun k => length_stepBytes p.steps[k]?) (List.range 8)

theorem length_planBytes (j : JunctionId) (p : Plan) : (planBytes j p).length = 93 := by
  have hhead : (planHead j p).length = 5 := rfl
  rw [planBytes_eq, List.length_append, List.length_append, hhead, length_steps_bytes,
    length_flatMap_const length_approachBytes, Vector.length_toList]

theorem field_plan_step {j : JunctionId} {p : Plan} (k : Fin 8) {o n : Nat} {v : Int}
    (h : Field (stepBytes p.steps[k.val]?) o n v) : Field (planBytes j p) (5 + 10 * k.val + o) n v := by
  have hk : (List.range 8)[k.val]? = some k.val := by rw [List.getElem?_range k.isLt]
  rw [planBytes_eq, Nat.add_assoc]
  exact field_append_left
    (field_append_right (field_flatMap (fun k => length_stepBytes p.steps[k]?) hk h) _) rfl

theorem field_plan_approach {j : JunctionId} {p : Plan} (q : Fin 4) {o n : Nat} {v : Int}
    (h : Field (approachBytes p.approaches[q]) o n v) : Field (planBytes j p) (85 + 2 * q.val + o) n v := by
  have hq : p.approaches.toList[q.val]? = some p.approaches[q] := by simp
  have hfield := field_append_left (field_flatMap length_approachBytes hq h) (length_steps_bytes p)
  have hoffset : 85 + 2 * q.val + o = 5 + (80 + (2 * q.val + o)) := by omega
  rw [planBytes_eq, hoffset]
  exact field_append_left hfield rfl

theorem planLayout_planBytes (j : JunctionId) (p : Plan) : PlanLayout j p (planBytes j p) := by
  have hhead : ∀ {o n : Nat} {v : Int}, Field (planHead j p) o n v → Field (planBytes j p) o n v := fun h => by
    rw [planBytes_eq]
    exact field_append_right h _
  refine ⟨length_planBytes j p, hhead (field_of_byteOf rfl), hhead (field_of_byte (b := p.planId) rfl), hhead (field_of_halfNat rfl),
    hhead (field_of_byteOf rfl), fun k st hst => ?_, fun k hk => ?_, fun q => ⟨?_, ?_⟩⟩
  · have hstep : stepBytes p.steps[k.val]? = stepBytes (some st) := by rw [hst]
    have hfield : ∀ {o n : Nat} {v : Int}, Field (stepBytes (some st)) o n v →
        Field (planBytes j p) (5 + 10 * k.val + o) n v := fun h => field_plan_step k (hstep ▸ h)
    exact ⟨hfield (o := 0) (field_of_byteOf rfl), hfield (field_of_halfNat rfl), hfield (field_of_halfNat rfl),
      hfield (field_flag (b := st.guarded) rfl), hfield (field_of_halfNat rfl), hfield (field_of_halfNat rfl)⟩
  · refine field_plan_step (o := 0) k ?_
    rw [List.getElem?_eq_none hk]
    exact ⟨by decide, by decide⟩
  · exact field_plan_approach (o := 0) q (field_absent (f := byteOf) rfl fun k => field_of_byteOf rfl)
  · rw [show 86 + 2 * q.val = 85 + 2 * q.val + 1 by omega]
    exact field_plan_approach q (field_absent (f := fun k : SegmentId => byteOf k.val) rfl fun k => field_of_byteOf rfl)

/-! ### A plan staged back from its bytes (R21, R24) -/

/-- A step entry and the step it stages have the same fields. -/
theorem stepOf_eq {b : StepBody} {st : PlanStep} (hphase : b.phase.toNat = st.phase) (hsplit : b.split.toNat = st.split)
    (hmin : b.minGreen.toNat = st.minGreen) (hguarded : b.guarded.toNat = if st.guarded then 1 else 0)
    (hextension : b.maxExtension.toNat = st.maxExtension) (hadvance : b.maxAdvance.toNat = st.maxAdvance) :
    stepOf b = st ∧ b.guarded.toNat ≤ 1 := by
  obtain ⟨phase, split, minGreen, guarded, maxExtension, maxAdvance⟩ := st
  have hflag : decide (b.guarded = 1#8) = guarded := by
    rw [Bool.eq_iff_iff, decide_eq_true_eq, BitVec.toNat_eq, hguarded]
    cases guarded <;> simp
  rw [stepOf, hphase, hsplit, hmin, hextension, hadvance, hflag, hguarded]
  exact ⟨rfl, by split <;> decide⟩

theorem approachEntryOf_eq {b : ApproachBody} {a : ApproachEntry} (hrange : ∀ k ∈ a.priority, k < 8)
    (hpriority : b.priority.toNat = a.priority.elim 0xFF id) (hfeeding : b.feeding.toNat = a.feeding.elim 0xFF Fin.val) :
    approachEntryOf b = a := by
  obtain ⟨priority, feeding⟩ := a
  have hp : (if b.priority = 0xFF#8 then none else some b.priority.toNat) = priority := by
    cases priority with
    | none => exact if_pos (BitVec.eq_of_toNat_eq hpriority)
    | some k =>
      have hval : b.priority.toNat = k := hpriority
      have hlt := hrange k rfl
      rw [if_neg (fun habsent => by rw [habsent] at hval; simp at hval; omega), hval]
  have hf : (if h : b.feeding.toNat < 32 then some (⟨b.feeding.toNat, h⟩ : SegmentId) else none) = feeding := by
    cases feeding with
    | none => exact dif_neg (hfeeding ▸ (by decide : ¬255 < 32))
    | some k =>
      have hval : b.feeding.toNat = k.val := hfeeding
      rw [dif_pos (hval ▸ k.isLt)]
      exact congrArg some (Fin.ext hval)
  rw [approachEntryOf, hp, hf]

section

variable {j : JunctionId} {p : Plan} {l : List Byte}

/-- The step entries of a body that holds a plan stage the plan's steps, and no flag is above 1. -/
theorem steps_planBodyOf (hsound : PlanSound p) (hlayout : PlanLayout j p l) {k : Fin 8} {st : PlanStep}
    (hst : p.steps[k.val]? = some st) :
    stepOf (planBodyOf l).steps[k] = st ∧ (planBodyOf l).steps[k].guarded.toNat ≤ 1 := by
  obtain ⟨-, -, -, -, -, hsteps, -, -⟩ := hlayout
  obtain ⟨-, -, -, hbounded, -⟩ := hsound
  obtain ⟨hphase, hsplit, hmin, hguarded, hextension, hadvance⟩ := hsteps k st hst
  obtain ⟨⟨-, p1⟩, ⟨-, p2⟩, ⟨-, p3⟩, p4, p5, -⟩ := hbounded st (List.mem_of_getElem? hst)
  have hflag : Field l (5 + 10 * k.val + 5) 1 ((if st.guarded then 1 else 0 : Nat) : Int) := by
    revert hguarded
    cases st.guarded <;> exact id
  have hstep : (planBodyOf l).steps[k] =
      { phase := byteAt l (5 + 10 * k.val), split := halfAt l (5 + 10 * k.val + 1),
        minGreen := halfAt l (5 + 10 * k.val + 3), guarded := byteAt l (5 + 10 * k.val + 5),
        maxExtension := halfAt l (5 + 10 * k.val + 6), maxAdvance := halfAt l (5 + 10 * k.val + 8) } := by
    simp [planBodyOf]
  rw [hstep]
  exact stepOf_eq (byteAt_of_field hphase (by omega)) (halfAt_of_field hsplit (by omega))
    (halfAt_of_field hmin (by omega)) (byteAt_of_field hflag (by split <;> decide))
    (halfAt_of_field hextension (by omega)) (halfAt_of_field hadvance (by omega))

theorem approaches_planBodyOf (hsound : PlanSound p) (hlayout : PlanLayout j p l) (q : Fin 4) :
    approachEntryOf (planBodyOf l).approaches[q] = p.approaches[q]
      ∧ (planBodyOf l).approaches[q].priority.toNat = p.approaches[q].priority.elim 0xFF id
      ∧ (planBodyOf l).approaches[q].feeding.toNat = p.approaches[q].feeding.elim 0xFF Fin.val := by
  obtain ⟨-, -, -, -, -, -, -, happroaches⟩ := hlayout
  obtain ⟨-, -, ⟨-, hcount⟩, -, -, -, hpriorities⟩ := hsound
  obtain ⟨hp, hf⟩ := happroaches q
  have hrange : ∀ k ∈ p.approaches[q].priority, k < 8 := fun k hk => (hpriorities q k hk).trans_le hcount
  have hentry : (planBodyOf l).approaches[q] =
      { priority := byteAt l (85 + 2 * q.val), feeding := byteAt l (86 + 2 * q.val) } := by
    simp [planBodyOf]
  have hpriority : (planBodyOf l).approaches[q].priority.toNat = p.approaches[q].priority.elim 0xFF id := by
    rw [hentry]
    refine byteAt_of_field ?_ ?_
    · revert hp
      cases p.approaches[q].priority <;> exact id
    · cases hx : p.approaches[q].priority with
      | none => decide
      | some k => exact (hrange k hx).trans (by decide)
  have hfeeding : (planBodyOf l).approaches[q].feeding.toNat = p.approaches[q].feeding.elim 0xFF Fin.val := by
    rw [hentry]
    refine byteAt_of_field ?_ ?_
    · revert hf
      cases p.approaches[q].feeding <;> exact id
    · cases p.approaches[q].feeding with
      | none => decide
      | some k => exact k.isLt.trans (by decide)
  exact ⟨approachEntryOf_eq hrange hpriority hfeeding, hpriority, hfeeding⟩

theorem count_planBodyOf (hsound : PlanSound p) (hlayout : PlanLayout j p l) :
    (planBodyOf l).count.toNat = p.steps.length := by
  obtain ⟨-, -, -, -, hcount, -⟩ := hlayout
  obtain ⟨-, -, hlength, -⟩ := hsound
  exact byteAt_of_field hcount (by omega)

theorem planOf_planBodyOf (hsound : PlanSound p) (hlayout : PlanLayout j p l) : planOf (planBodyOf l) = p := by
  have hcount := count_planBodyOf hsound hlayout
  have hsteps : (planOf (planBodyOf l)).steps = p.steps := by
    obtain ⟨-, -, hlength, -⟩ := id hsound
    refine List.ext_getElem? fun k => ?_
    by_cases hk : k < p.steps.length
    · have hk8 : k < 8 := by omega
      have hused := getElem?_usedSteps (planBodyOf l) ⟨k, hk8⟩
      rw [if_pos (by rw [hcount]; exact hk)] at hused
      have hst := List.getElem?_eq_getElem hk
      rw [planOf, List.getElem?_map, hused, hst]
      exact congrArg some (steps_planBodyOf hsound hlayout (k := ⟨k, hk8⟩) hst).1
    · rw [List.getElem?_eq_none (not_lt.mp hk), List.getElem?_eq_none]
      rw [planOf, List.length_map, length_usedSteps (by omega)]
      omega
  have happroaches : (planOf (planBodyOf l)).approaches = p.approaches := by
    refine Vector.ext fun q hq => ?_
    have := (approaches_planBodyOf hsound hlayout ⟨q, hq⟩).1
    rw [← approaches_planOf] at this
    exact this
  obtain ⟨-, -, hid, hcycle, -⟩ := hlayout
  obtain ⟨-, hcycleRange, -⟩ := hsound
  have hid' : (planBodyOf l).planId = p.planId := ((field_byte l 1 p.planId).mp hid).2
  have hcycle' : (planBodyOf l).cycle.toNat = p.cycle := halfAt_of_field hcycle (by omega)
  obtain ⟨planId, cycle, steps, approaches⟩ := p
  exact Plan.mk.injEq .. ▸ ⟨hid', hcycle', hsteps, happroaches⟩

/-- The used entries of a body that holds a plan are in range, and a protected one has both maximums 0. -/
theorem usedSteps_planBodyOf (hsound : PlanSound p) (hlayout : PlanLayout j p l) :
    ∀ st ∈ usedSteps (planBodyOf l),
      stepInRange st = true ∧ (st.guarded = 1#8 → st.maxExtension = 0#16 ∧ st.maxAdvance = 0#16) := by
  rw [forall_mem_usedSteps, count_planBodyOf hsound hlayout]
  intro k hk
  have hst := List.getElem?_eq_getElem hk
  obtain ⟨heq, hflag⟩ := steps_planBodyOf hsound hlayout hst
  obtain ⟨-, -, -, hbounded, -⟩ := hsound
  have hb : StepBounded (stepOf (planBodyOf l).steps[k]) := heq ▸ hbounded _ (List.getElem_mem hk)
  obtain ⟨hphase, hsplit, hmin, hextension, hadvance, hguarded⟩ := hb
  refine ⟨(stepInRange_iff _).mpr ⟨hphase, hsplit, hmin, by bv_omega, hextension, hadvance⟩, fun hone => ?_⟩
  obtain ⟨he, ha⟩ := hguarded (decide_eq_true hone)
  exact ⟨BitVec.eq_of_toNat_eq he, BitVec.eq_of_toNat_eq ha⟩

theorem planFields_planBodyOf (hsound : PlanSound p) (hlayout : PlanLayout j p l) : PlanFields (planBodyOf l) := by
  have hplan := planOf_planBodyOf hsound hlayout
  have hcount := count_planBodyOf hsound hlayout
  have hused := usedSteps_planBodyOf hsound hlayout
  have hid : (planBodyOf l).planId = p.planId := congrArg Plan.planId hplan
  have hcycle : (planBodyOf l).cycle.toNat = p.cycle := congrArg Plan.cycle hplan
  have happroaches := approaches_planBodyOf hsound hlayout
  obtain ⟨hidZero, hcycleRange, hlength, -, hnodup, hsum, hpriorities⟩ := hsound
  refine (planFields_iff_checks _).mpr ⟨hid ▸ hidZero, hcycle ▸ hcycleRange, hcount ▸ hlength, fun st hst => (hused st hst).1,
    hplan ▸ hnodup, fun st hst => (hused st hst).2, ?_, fun q => ?_⟩
  · rw [hplan, hcycle, hsum]
  · obtain ⟨-, hpriority, hfeeding⟩ := happroaches q
    refine (approachInRange_iff _ _).mpr ⟨?_, ?_⟩
    · rw [hcount, hpriority]
      cases hx : p.approaches[q].priority with
      | none => exact .inl (BitVec.eq_of_toNat_eq (by rw [hpriority, hx]; rfl))
      | some k => exact .inr (hpriorities q k hx)
    · rw [hfeeding]
      cases hx : p.approaches[q].feeding with
      | none => exact .inl (BitVec.eq_of_toNat_eq (by rw [hfeeding, hx]; rfl))
      | some k => exact .inr (Nat.le_of_lt_succ k.isLt)

end

theorem planRead_of_some {s : State} {j : JunctionId} {p : Plan} {slot : Byte}
    (h : slot = 0#8 ∧ (junctionAt s j).activePlan = some p ∨ slot = 1#8 ∧ (junctionAt s j).stagedPlan = some p) :
    planRead (byteOf j.val) slot s = (.ok, planBytes j p) := by
  have hj : junctionOf (byteOf j.val) = some j := by
    rw [junctionOf_eq_some_iff, byteOf_toNat]
    exact Nat.mod_eq_of_lt (j.isLt.trans (by decide))
  rw [planRead, hj]
  dsimp only
  rcases h with ⟨rfl, hp⟩ | ⟨rfl, hp⟩
  · rw [if_pos rfl, hp]
  · rw [if_neg (by decide), if_pos rfl, hp]

/-- Settles O52: the bytes of the plan's body hold its fields, and the body read from them stages the same plan. -/
theorem planReadReturnsWhatWasStaged : Obligations.PlanReadReturnsWhatWasStaged := by
  classical
  intro p j slot s hsound hfree hslot
  have hlayout := planLayout_planBytes j p
  have hplan := planOf_planBodyOf hsound hlayout
  have hfields := planFields_planBodyOf hsound hlayout
  have hjunction : (planBodyOf (planBytes j p)).junction = byteOf j.val := rfl
  refine ⟨planBytes j p, planBodyOf (planBytes j p), hlayout,
    ⟨rfl, length_planBytes j p, planBodyLayout_planBodyOf (length_planBytes j p)⟩,
    exec_of_command rfl hfree (congrArg (Prod.mk s) (planRead_of_some hslot)), hplan, hjunction, hfields,
    fun t hfree' hdiffers => ?_⟩
  have hj : junctionOf (planBodyOf (planBytes j p)).junction = some j := by
    rw [hjunction, junctionOf_eq_some_iff, byteOf_toNat]
    exact Nat.mod_eq_of_lt (j.isLt.trans (by decide))
  have hid : (planBodyOf (planBytes j p)).planId = p.planId := rfl
  rw [exec_planStage _ hfree', planStage_of_junction t hj, if_pos hfields, if_neg (hid ▸ hdiffers), hplan]

end Sys2Proof.Proofs

/-! The policy: every cycle limit set again, and the layout of the items (O55). -/

namespace Sys2Proof.Proofs

open Sys2Proof.Machine Sys2Proof.Safety Sys2Proof.Laws

/-! ### The cycle limits set again (R16, R164) -/

/-- The cycle limit of a junction under a policy, from its last cycle start. -/
def limitUnder (now : Time) (p : Policy) (c : Junction) : Time :=
  timeAdd (c.lastCycleStart.getD now) (cycleOf c + p.debtLimit + p.syncTolerance)

/-- A LIVE junction whose limit under a policy is not later than now. -/
def limitLost (now : Time) (p : Policy) (c : Junction) : Bool :=
  isLive c && decide (0 ≤ timeDiff now (limitUnder now p c))

/-- A junction once its limit is set again: lost, with the new limit, or DARK as it was. -/
def limitReset (now : Time) (p : Policy) (c : Junction) : Junction :=
  if limitLost now p c then darkened now .noCycle c
  else if isLive c then { c with sync := .live (limitUnder now p c) }
  else c

theorem limitReset_of_lost {now : Time} {p : Policy} {c : Junction} (h : limitLost now p c = true) :
    limitReset now p c =
      { c with
        sync := .dark .noCycle
        frozenPosition := (c.lastCycleStart.map fun t0 => (timeDiff now t0).toNat).getD c.frozenPosition
        grant := none
        outstanding := none
        acceptDeadline := none
        candidates := []
        changeCount := c.changeCount + byteOf c.candidates.length } := by
  rw [limitReset, if_pos h, darkened, emptyOrder, positionAt_of_live now ((Bool.and_eq_true ..).mp h).1]

theorem resetCycleLimit_of_lost {now : Time} {j : JunctionId} {s : State}
    (h : limitLost now s.policy (junctionAt s j) = true) : resetCycleLimit now j s = goDark now j .noCycle s := by
  obtain ⟨hlive, hreached⟩ := (Bool.and_eq_true ..).mp h
  unfold resetCycleLimit
  dsimp only
  rw [if_pos hlive]
  exact if_pos hreached

theorem resetCycleLimit_of_kept {now : Time} {j : JunctionId} {s : State}
    (h : limitLost now s.policy (junctionAt s j) = false) :
    resetCycleLimit now j s = onJunction j (fun _ => limitReset now s.policy (junctionAt s j)) s := by
  rw [limitReset, h]
  unfold resetCycleLimit
  dsimp only
  by_cases hlive : isLive (junctionAt s j) = true
  · have hreached : reached now (limitUnder now s.policy (junctionAt s j)) = false := by
      rw [limitLost, hlive] at h
      exact h
    rw [if_pos hlive, if_neg Bool.false_ne_true, if_pos hlive]
    exact if_neg (by rw [Bool.not_eq_true]; exact hreached)
  · rw [if_neg hlive, if_neg Bool.false_ne_true, if_neg hlive]
    exact (onJunction_id j s).symm

/-- The junctions of a list have had their limits set again under a policy, and nothing else has changed (R16). -/
def LimitsReset (p : Policy) (l : List JunctionId) (s t : State) : Prop :=
  let lost := fun j => decide (j ∈ l) && limitLost s.time p (junctionAt s j)
  (∀ j, junctionAt t j = if j ∈ l then limitReset s.time p (junctionAt s j) else junctionAt s j)
    ∧ (∀ i, (slotAt t i).generation = (slotAt s i).generation
        ∧ recordAt t i = (recordAt s i).map fun r =>
            if lost r.junction = true ∧ seeksGrant r = true then { r with status := .held .junctionDark } else r)
    ∧ t.directives = s.directives.filter (fun d => !(lost d.junction && !d.sending && !isRelease d.kind))
    ∧ t.notices = ((raise .junctionDark)^[(l.filter fun j => limitLost s.time p (junctionAt s j)).length] s).notices
    ∧ t.evalQueue = s.evalQueue ∧ t.transmitter = s.transmitter ∧ outside t = { outside s with policy := p }

theorem limitsReset_nil (p : Policy) (s : State) : LimitsReset p [] s { s with policy := p } := by
  refine ⟨fun j => rfl, fun i => ⟨rfl, ?_⟩, ?_, rfl, rfl, rfl, rfl⟩
  · simp only [List.not_mem_nil, decide_false, Bool.false_and, Bool.false_eq_true, false_and, if_false]
    exact Option.map_id'.symm
  · simp

theorem notices_raise_congr {c : Category} {s t : State} (h : s.notices = t.notices) :
    (raise c s).notices = (raise c t).notices := by
  simp only [raise, onNotice, h]

theorem mem_snoc_and (f : JunctionId → Bool) (l : List JunctionId) (j k : JunctionId) :
    (decide (k ∈ l ++ [j]) && f k) = ((decide (k ∈ l) && f k) || (decide (k = j) && f j)) := by
  rw [Bool.eq_iff_iff]
  simp only [Bool.and_eq_true, Bool.or_eq_true, decide_eq_true_eq, List.mem_append, List.mem_singleton]
  constructor
  · rintro ⟨hk | rfl, hf⟩
    · exact .inl ⟨hk, hf⟩
    · exact .inr ⟨rfl, hf⟩
  · rintro (⟨hk, hf⟩ | ⟨rfl, hf⟩)
    · exact ⟨.inl hk, hf⟩
    · exact ⟨.inr rfl, hf⟩

theorem LimitsReset.snoc {p : Policy} {l : List JunctionId} {s t : State} {j : JunctionId} (h : LimitsReset p l s t)
    (hj : j ∉ l) : LimitsReset p (l ++ [j]) s (resetCycleLimit s.time j t) := by
  obtain ⟨hjunctions, hslots, hdirectives, hnotices, hqueue, htransmitter, houtside⟩ := h
  have hpolicy : t.policy = p := (congrArg Outside.policy houtside :)
  have hself : junctionAt t j = junctionAt s j := by rw [hjunctions, if_neg hj]
  have hlost := mem_snoc_and (fun k => limitLost s.time p (junctionAt s k)) l j
  have hothers : ∀ k, k ≠ j → (k ∈ l ++ [j] ↔ k ∈ l) := fun k hk => by simp [hk]
  cases hcase : limitLost s.time p (junctionAt s j) with
  | false =>
    have hstep := resetCycleLimit_of_kept (now := s.time) (j := j) (s := t) (by rw [hpolicy, hself, hcase])
    rw [hpolicy, hself] at hstep
    have hsame : ∀ k, (decide (k ∈ l ++ [j]) && limitLost s.time p (junctionAt s k))
        = (decide (k ∈ l) && limitLost s.time p (junctionAt s k)) := fun k => by
      rw [hlost k, hcase, Bool.and_false, Bool.or_false]
    rw [hstep]
    refine ⟨fun k => ?_, fun i => ?_, ?_, ?_, hqueue, htransmitter, houtside⟩
    · rw [junctionAt_onJunction]
      by_cases hk : k = j
      · subst hk
        rw [if_pos rfl, if_pos (by simp)]
      · rw [if_neg (Ne.symm hk), hjunctions k]
        exact if_congr (hothers k hk).symm rfl rfl
    · simp only [hsame]
      exact hslots i
    · simp only [hsame]
      exact hdirectives
    · rw [List.filter_append, List.filter_cons_of_neg (by rw [hcase]; exact Bool.false_ne_true), List.filter_nil, List.append_nil]
      exact hnotices
  | true =>
    have hlive : isLive (junctionAt t j) = true := by
      rw [hself]
      exact ((Bool.and_eq_true ..).mp hcase).1
    have hstep := resetCycleLimit_of_lost (now := s.time) (j := j) (s := t) (by rw [hpolicy, hself, hcase])
    rw [hstep]
    obtain ⟨-, hn, hd, hr, ho, hq, ht, hout⟩ := wentDark_goDark s.time j .noCycle t hlive
    refine ⟨fun k => ?_, fun i => ⟨(hr i).1.trans (hslots i).1, ?_⟩, ?_, ?_, hq.trans hqueue, ht.trans htransmitter, hout.trans houtside⟩
    · by_cases hk : k = j
      · subst hk
        rw [junctionAt_goDark, hself, if_pos (by simp), limitReset, if_pos hcase]
      · rw [ho k hk, hjunctions k]
        exact if_congr (hothers k hk).symm rfl rfl
    · rw [(hr i).2, (hslots i).2, Option.map_map]
      refine Option.map_congr fun r _ => ?_
      simp only [Function.comp_apply, hlost, hcase, Bool.and_true, Bool.or_eq_true, decide_eq_true_eq]
      by_cases hheld : (decide (r.junction ∈ l) && limitLost s.time p (junctionAt s r.junction)) = true ∧ seeksGrant r = true
      · have hright : ((decide (r.junction ∈ l) && limitLost s.time p (junctionAt s r.junction)) = true ∨ r.junction = j)
            ∧ seeksGrant r = true := hheld.imp_left .inl
        rw [if_pos hheld, if_pos hright]
        exact if_neg fun h => Bool.false_ne_true h.2
      · rw [if_neg hheld]
        refine if_congr ⟨fun h => ⟨.inr h.1, h.2⟩, fun h => ⟨h.1.resolve_left fun hfirst => hheld ⟨hfirst, h.2⟩, h.2⟩⟩ rfl rfl
    · rw [hd, hdirectives, List.filter_filter]
      refine List.filter_congr fun d _ => ?_
      simp only [hlost, hcase]
      cases decide (d.junction ∈ l) && limitLost s.time p (junctionAt s d.junction) <;> cases decide (d.junction = j) <;>
        cases d.sending <;> cases isRelease d.kind <;> rfl
    · have hsingle : [j].filter (fun k => limitLost s.time p (junctionAt s k)) = [j] := by simp [hcase]
      rw [List.filter_append, hsingle, List.length_append, List.length_singleton, Function.iterate_succ_apply', hn]
      exact notices_raise_congr hnotices

theorem limitsReset_foldl (p : Policy) (s : State) (l : List JunctionId) (hnodup : l.Nodup) :
    LimitsReset p l s (l.foldl (fun t j => resetCycleLimit s.time j t) { s with policy := p }) := by
  induction l using List.reverseRecOn with
  | nil => exact limitsReset_nil p s
  | append_singleton l j ih =>
    rw [List.nodup_append] at hnodup
    obtain ⟨hl, -, hdisjoint⟩ := hnodup
    rw [List.foldl_append]
    exact (ih hl).snoc fun hj => hdisjoint j hj j (List.mem_singleton_self j) rfl

/-! ### The items of a body (R164) -/

theorem policyInRange_iff (b : PolicyBody) :
    policyInRange b = true ↔ PolicyBounded (policyOf b) ∧ b.partials.toNat ≤ 1 := by
  simp only [policyInRange, PolicyBounded, policyOf, Bool.and_eq_true, decide_eq_true_eq]
  tauto

theorem policyLayout_policyBytes (p : Policy) : PolicyLayout p (policyBytes p) :=
  ⟨rfl, field_of_halfNat rfl, field_of_byteOf rfl, field_of_halfNat rfl, field_of_halfNat rfl, field_of_byteOf rfl,
    field_flag rfl, field_of_byteOf rfl, field_of_halfNat rfl, field_of_byteOf rfl, field_of_byteOf rfl,
    field_of_halfNat rfl, field_of_byteOf rfl, field_of_byteOf rfl, field_of_byteOf rfl, field_of_halfNat rfl,
    field_of_halfNat rfl⟩

theorem policyBodyLayout_policyBodyOf {l : List Byte} (h : l.length = 23) : PolicyBodyLayout (policyBodyOf l) l :=
  ⟨field_halfAt (by omega), field_byteAt (by omega), field_halfAt (by omega), field_halfAt (by omega),
    field_byteAt (by omega), field_byteAt (by omega), field_byteAt (by omega), field_halfAt (by omega),
    field_byteAt (by omega), field_byteAt (by omega), field_halfAt (by omega), field_byteAt (by omega),
    field_byteAt (by omega), field_byteAt (by omega), field_halfAt (by omega), field_halfAt (by omega)⟩

/-- A flag byte of 0 or 1 is the number of the flag it carries. -/
theorem flag_of_byte {b : Byte} (h : b.toNat ≤ 1) : b.toNat = if decide (b = 1#8) then 1 else 0 := by
  have hb : b = 0#8 ∨ b = 1#8 := by bv_omega
  rcases hb with rfl | rfl <;> rfl

theorem policyLayout_policyOf {l : List Byte} (h : l.length = 23) (hflag : (policyBodyOf l).partials.toNat ≤ 1) :
    PolicyLayout (policyOf (policyBodyOf l)) l := by
  obtain ⟨h0, h2, h3, h5, h7, h8, hrest⟩ := policyBodyLayout_policyBodyOf h
  refine ⟨h, h0, h2, h3, h5, h7, ?_, hrest⟩
  rw [flag_of_byte hflag] at h8
  revert h8
  rw [policyOf]
  cases decide ((policyBodyOf l).partials = 1#8) <;> exact id

/-- The items read from a body that holds a policy in its ranges are the policy's. -/
theorem policyOf_of_policyLayout {p : Policy} {l : List Byte} (hb : PolicyBounded p) (h : PolicyLayout p l) :
    policyOf (policyBodyOf l) = p := by
  obtain ⟨horizon, guardTime, early, threshold, minGrant, partials, decisionLife, debtLimit, recoveryRate, lockoutCycles,
    recordLifetime, acceptTimeout, linkTimeout, syncTolerance, passageLifetime, staleTime⟩ := p
  obtain ⟨b1, b2, b3, b4, b5, b6, b7, b8, b9, b10, b11, b12, b13, b14, b15⟩ := hb
  obtain ⟨-, h0, h2, h3, h5, h7, h8, h9, h10, h12, h13, h14, h16, h17, h18, h19, h21⟩ := h
  have hflag : decide (byteAt l 8 = 1#8) = partials := by
    have hvalue : (byteAt l 8).toNat = if partials then 1 else 0 :=
      byteAt_of_field (by revert h8; cases partials <;> exact id) (by split <;> decide)
    rw [Bool.eq_iff_iff, decide_eq_true_eq, BitVec.toNat_eq, hvalue]
    cases partials <;> simp
  dsimp only at b1 b2 b3 b4 b5 b6 b7 b8 b9 b10 b11 b12 b13 b14 b15
  simp only [policyOf, policyBodyOf, Policy.mk.injEq]
  exact ⟨halfAt_of_field h0 (by omega), byteAt_of_field h2 (by omega), halfAt_of_field h3 (by omega),
    halfAt_of_field h5 (by omega), byteAt_of_field h7 (by omega), hflag, byteAt_of_field h9 (by omega),
    halfAt_of_field h10 (by omega), byteAt_of_field h12 (by omega), byteAt_of_field h13 (by omega),
    halfAt_of_field h14 (by omega), byteAt_of_field h16 (by omega), byteAt_of_field h17 (by omega),
    byteAt_of_field h18 (by omega), halfAt_of_field h19 (by omega), halfAt_of_field h21 (by omega)⟩

/-- Settles O55: an item out of range refuses the whole, and otherwise the limits are set again junction by junction. -/
theorem policySetReplacesEveryItem : Obligations.PolicySetReplacesEveryItem := by
  intro b s hfree
  refine ⟨fun hbad => ?_, fun hbounded hflag => ?_, fun body hbody => ⟨?_, ?_, policyLayout_policyOf hbody⟩,
    policyBytes s.policy, policyLayout_policyBytes s.policy, exec_of_command rfl hfree rfl,
    fun hb => policyOf_of_policyLayout hb (policyLayout_policyBytes s.policy)⟩
  · refine exec_of_command rfl hfree ?_
    have hrange : ¬policyInRange b = true := fun h => by
      obtain ⟨hb, hp⟩ := (policyInRange_iff b).mp h
      exact hbad.elim (fun hnot => hnot hb) fun hone => by omega
    exact if_neg hrange
  · have hrange : policyInRange b = true := (policyInRange_iff b).mpr ⟨hbounded, hflag⟩
    obtain ⟨hjunctions, hslots, hdirectives, hnotices, hqueue, htransmitter, houtside⟩ :=
      limitsReset_foldl (policyOf b) s (List.finRange 16) (List.nodup_finRange 16)
    simp only [List.mem_finRange, decide_true, Bool.true_and, if_true] at hjunctions hslots hdirectives
    refine ⟨_, exec_of_command rfl hfree (if_pos hrange), fun j => ?_, hslots, hdirectives, hnotices, hqueue, htransmitter,
      houtside⟩
    rw [hjunctions j]
    dsimp only
    split
    · next hlost => exact limitReset_of_lost hlost
    · next hkept => exact if_neg hkept
  · simp [commandOf, commandSize, hbody]
  · exact field_byteAt (by omega)

end Sys2Proof.Proofs

/-! The passage table and the deadlines of segments and passages (O41, O43). -/

namespace Sys2Proof.Proofs

open Sys2Proof.Machine Sys2Proof.Safety Sys2Proof.Laws

/-! ### The passage table (R141, R142) -/

theorem entryOf_eq_none_iff {v : Half} {l : List PassageEntry} : entryOf v l = none ↔ ∀ e ∈ l, e.vehicle ≠ v := by
  simp [entryOf]

/-- The entry of a vehicle is the one found, as no vehicle has two (R141). -/
theorem entryOf_of_mem {v : Half} {l : List PassageEntry} {e : PassageEntry} (hnodup : (l.map PassageEntry.vehicle).Nodup)
    (he : e ∈ l) (hv : e.vehicle = v) : entryOf v l = some e := by
  cases hfound : entryOf v l with
  | none => exact absurd hv (entryOf_eq_none_iff.mp hfound e he)
  | some e' =>
    have hmem := List.mem_of_find?_eq_some hfound
    have hvehicle : e'.vehicle = v := by simpa using List.find?_some hfound
    exact congrArg some (List.inj_on_of_nodup_map hnodup hmem he (hvehicle.trans hv.symm))

theorem dropEntry_of_none {v : Half} {l : List PassageEntry} (h : ∀ e ∈ l, e.vehicle ≠ v) : dropEntry v l = l :=
  List.filter_eq_self.mpr fun e he => decide_eq_true (h e he)

theorem dropEntry_append_cons {v : Half} {pre post : List PassageEntry} {e : PassageEntry}
    (hnodup : ((pre ++ e :: post).map PassageEntry.vehicle).Nodup) (hv : e.vehicle = v) :
    dropEntry v (pre ++ e :: post) = pre ++ post := by
  rw [List.map_append, List.map_cons, List.nodup_append, List.nodup_cons] at hnodup
  obtain ⟨-, ⟨hpost, -⟩, hpre⟩ := hnodup
  have hbefore : dropEntry v pre = pre := dropEntry_of_none fun x hx h =>
    hpre _ (List.mem_map_of_mem hx) _ List.mem_cons_self (h.trans hv.symm)
  have hafter : dropEntry v post = post := dropEntry_of_none fun x hx h =>
    hpost (List.mem_map.mpr ⟨x, hx, h.trans hv.symm⟩)
  have hself : dropEntry v (e :: post) = dropEntry v post := List.filter_cons_of_neg (by simp [hv])
  have hsplit : dropEntry v (pre ++ e :: post) = dropEntry v pre ++ dropEntry v (e :: post) := List.filter_append ..
  rw [hsplit, hself, hbefore, hafter]

/-- A passage written where at most 48 entries are held (R142). -/
theorem writeEntry_eq {e : PassageEntry} {l : List PassageEntry} (hlength : l.length ≤ 48) :
    writeEntry e l =
      (if (dropEntry e.vehicle l).length = 48 then (dropEntry e.vehicle l).drop 1 else dropEntry e.vehicle l) ++ [e] := by
  unfold writeEntry
  by_cases hnone : ∀ x ∈ l, x.vehicle ≠ e.vehicle
  · rw [entryOf_eq_none_iff.mpr hnone, dropEntry_of_none hnone]
    by_cases hfull : l.length = 48
    · rw [if_neg (by decide), if_neg (by omega), if_pos hfull]
    · rw [if_neg (by decide), if_pos (by omega), if_neg hfull]
  · have hsome : (entryOf e.vehicle l).isSome = true := by
      rw [← Option.ne_none_iff_isSome]
      exact mt entryOf_eq_none_iff.mp hnone
    have hshorter : (dropEntry e.vehicle l).length < l.length := by
      refine lt_of_le_of_ne (List.length_filter_le _ _) fun h => hnone fun x hx => ?_
      exact of_decide_eq_true (List.length_filter_eq_length_iff.mp h x hx)
    rw [if_pos hsome, if_neg (by omega)]

theorem passageAt_of_vehicle {v : Half} (now : Time) (j : JunctionId) (s : State) (hv : 1 ≤ v.toNat ∧ v.toNat ≤ 65534) :
    passageAt now v j s = (fun t : State =>
      { t with
        passages := writeEntry
          { vehicle := v, junction := j, entryTime := now, expiry := timeAdd now s.policy.passageLifetime } t.passages })
      ((entryOf v s.passages).elim s fun e =>
        if e.junction = j then s else handSample now e.junction j (timeDiff now e.entryTime) s) := by
  have hreal : realVehicle v = true := decide_eq_true hv
  unfold passageAt
  rw [if_pos hreal]
  cases entryOf v s.passages <;> rfl

/-- A pair of junctions that no configured segment joins takes no sample. -/
theorem handSample_of_no_segment {now : Time} {i j : JunctionId} {sample : Int} {s : State}
    (h : ∀ k : SegmentId, ∀ g ∈ segmentAt s k, ¬(g.source = i ∧ g.target = j)) : handSample now i j sample s = s := by
  have hnone : segmentBetween s i j = none :=
    List.find?_eq_none.mpr fun k _ hk => by
      obtain ⟨g, hg, hpair⟩ := (any_hasPair_iff ..).mp hk
      exact h k g hg hpair
  rw [handSample, hnone]

theorem enqueueTied_passages (k : SegmentId) (s : State) : (enqueueTied k s).passages = s.passages := by
  rw [enqueueTied_eq k rfl rfl]

theorem handSample_passages (now : Time) (i j : JunctionId) (sample : Int) (s : State) :
    (handSample now i j sample s).passages = s.passages := by
  unfold handSample
  split
  · rfl
  split
  · rfl
  split
  · unfold takeSample
    dsimp only
    split
    · rfl
    · exact enqueueTied_passages ..
  · unfold takeOverrun
    split
    · split
      · rfl
      · exact enqueueTied_passages ..
    · rfl
    · rfl

/-- Settles O41: the vehicle's one entry decides on the sample, and the entry is then written at the youngest place. -/
theorem passageIsPairedAndWritten : Obligations.PassageIsPairedAndWritten := by
  intro now v j s
  refine ⟨fun hv => ?_, fun hbounded hsegments hv => ?_⟩
  · unfold passageAt
    exact if_neg fun h => hv (of_decide_eq_true h)
  obtain ⟨hlength, hnodup, -⟩ := hbounded
  refine ⟨fun hpair => ?_, fun e he hev hej k g hg hsource htarget => ?_⟩
  · have hsame : ((entryOf v s.passages).elim s fun e =>
        if e.junction = j then s else handSample now e.junction j (timeDiff now e.entryTime) s) = s := by
      cases hfound : entryOf v s.passages with
      | none => rfl
      | some e =>
        have hmem := List.mem_of_find?_eq_some hfound
        have hvehicle : e.vehicle = v := by simpa using List.find?_some hfound
        rcases hpair e hmem hvehicle with hsamej | hnosegment
        · exact if_pos hsamej
        · refine (ite_eq_left_iff.mpr fun _ => handSample_of_no_segment hnosegment)
    rw [passageAt_of_vehicle now j s hv, hsame]
    dsimp only
    rw [writeEntry_eq hlength]
    rfl
  · have hpassages : (handSample now e.junction j (timeDiff now e.entryTime) s).passages = s.passages := handSample_passages ..
    rw [passageAt_of_vehicle now j s hv, entryOf_of_mem hnodup he hev]
    dsimp only [Option.elim_some]
    rw [if_neg hej, hpassages, writeEntry_eq hlength]
    rfl

/-! ### The deadlines (R143, R146) -/

theorem exec_staleDeadlineExpiry {k : SegmentId} {g : Segment} {s : State} (hg : segmentAt s k = some g) :
    exec (.staleDeadlineExpiry k) s =
      .next (if (due s.time (staleDeadline g)).isSome then
        { setSegment k (some { g with state := .stale }) s with evalQueue := queuedWhere s.evalQueue (holdsTied s k) }
      else s) := by
  simp only [exec, execStaleDeadlineExpiry, hg]
  cases due s.time (staleDeadline g) with
  | none => rfl
  | some d => exact congrArg Host.Outcome.next (enqueueTied_setSegment k _ s)

/-- Settles O43: the deadline a segment or an entry holds is due, or it is not. -/
theorem staleAndEntryDeadlinesExpire : Obligations.StaleAndEntryDeadlinesExpire := by
  intro s
  refine ⟨fun k g d hg hstate => ?_, fun k hstale => ?_, fun v pre post e hbounded hpassages hv => ?_, fun v hnone => ?_⟩
  · have hdeadline : staleDeadline g = some d := by
      rw [staleDeadline]
      rcases hstate with h | h <;> rw [h]
    rw [exec_staleDeadlineExpiry hg, hdeadline, due_some]
    split <;> rfl
  · cases hg : segmentAt s k with
    | none => simp only [exec, execStaleDeadlineExpiry, hg]
    | some g =>
      have hdeadline : staleDeadline g = none := by rw [staleDeadline, hstale g hg]
      rw [exec_staleDeadlineExpiry hg, hdeadline]
      rfl
  · obtain ⟨-, hnodup, -⟩ := hbounded
    have hmem : e ∈ s.passages := by rw [hpassages]; exact List.mem_append_right _ List.mem_cons_self
    have hdrop : dropEntry v s.passages = pre ++ post := by
      rw [hpassages] at hnodup ⊢
      exact dropEntry_append_cons hnodup hv
    simp only [exec, execPassageEntryExpiry, entryOf_of_mem hnodup hmem hv, Option.map_some, due_some, hdrop]
    by_cases hdue : 0 ≤ timeDiff s.time e.expiry
    · rw [if_pos hdue, if_pos hdue]
    · rw [if_neg hdue, if_neg hdue]
  · simp only [exec, execPassageEntryExpiry, entryOf_eq_none_iff.mpr hnone, Option.map_none]
    rfl

end Sys2Proof.Proofs

/-! The supervisor port's transactions (O48, O50), the transmitter (O46, O47) and discarded frames (O45). -/

namespace Sys2Proof.Proofs

open Sys2Proof.Machine Sys2Proof.Safety Sys2Proof.Laws

/-! ### Taking a command (R160) -/

/-- A row of the supervisor port is its command. -/
theorem exec_of_supervisorCommand {c : Instr} {cmd : Command} (h : supervisorCommand c = some cmd) (s : State) :
    exec c s = .next (command cmd s) := by
  cases c <;> cases h <;> rfl

theorem isExecuting_of_busy {s : State} (h : Busy s) : isExecuting s = true := by
  obtain ⟨r, since, hport⟩ := h
  rw [isExecuting, hport]

theorem command_of_busy {cmd : Command} {s : State} (h : Busy s) :
    command cmd s = raise .frameError { s with spiDriven := List.replicate (commandLength cmd + 5) 0 } := by
  rw [command, commandCode_eq, commandSize_commandNumber, takeCommand, if_pos (isExecuting_of_busy h)]
  rfl

theorem act_of_readsOnly {cmd : Command} (h : readsOnly cmd = true) (s : State) : (act cmd s).1 = s := by
  cases cmd with
  | planRead _ _ | segmentRead _ | policyRead | junctionQuery _ | noticeRead => rfl
  | _ => exact absurd h Bool.false_ne_true

/-- Settles O48: the port is EXECUTING, or it takes the command. -/
theorem portTakesACommandUnlessExecuting : Obligations.PortTakesACommandUnlessExecuting := by
  intro c cmd s hcmd
  rw [exec_of_supervisorCommand hcmd]
  exact ⟨fun hbusy => congrArg Host.Outcome.next (command_of_busy hbusy),
    fun hfree => ⟨congrArg Host.Outcome.next (command_eq cmd s (isExecuting_of_not_busy s hfree)),
      fun hreads => act_of_readsOnly hreads s⟩⟩

/-! ### Reads (R161) -/

/-- The bytes driven are those of the frame, and 0x00 behind it. -/
theorem drivenBytes_eq (n : Nat) (frame : List Byte) : drivenBytes n frame = (List.range n).map fun k => frame.getD k 0 := by
  refine List.ext_getElem? fun k => ?_
  rw [drivenBytes, List.getElem?_map, List.getElem?_append, List.length_take, List.getElem?_take, List.getElem?_replicate]
  by_cases hk : k < n
  · rw [List.getElem?_range hk, Option.map_some, List.getD_eq_getElem?_getD]
    by_cases hframe : k < frame.length
    · rw [if_pos (by omega), if_pos hk, List.getElem?_eq_getElem hframe, Option.getD_some]
    · rw [if_neg (by omega), if_pos (by omega), List.getElem?_eq_none (by omega), Option.getD_none]
  · rw [if_neg (by omega), if_neg (by omega), List.getElem?_eq_none (by rw [List.length_range]; omega), Option.map_none]

theorem notReadyFrame_eq : notReadyFrame = [0xA5#8, 0x00#8, 0x7F#8, 0x77#8, 0x92#8] := by decide +kernel

theorem responseFrame_eq (r : Response) : responseFrame r = frameOf r.kind (responseNumber r.code :: r.result) := by
  rw [responseFrame, responseBody, responseByte_eq]

theorem readResponse_of_ready {n : Nat} {s : State} {r : Response} {mark : Bool} (h : s.port = .ready r mark) :
    readResponse n s =
      { s with
        port := .ready r true
        freeCount := s.freeCount + 1
        spiDriven := Config.freeByte s.freeCount :: drivenBytes n (responseFrame r) } := by
  rw [readResponse, h]

theorem readResponse_of_not_ready {n : Nat} {s : State} (h : ∀ r mark, s.port ≠ .ready r mark) :
    readResponse n s =
      { s with
        freeCount := s.freeCount + 1
        spiDriven := Config.freeByte s.freeCount :: drivenBytes n notReadyFrame } := by
  cases hport : s.port with
  | ready r mark => exact absurd hport (h r mark)
  | idle => rw [readResponse, hport]
  | executing r since => rw [readResponse, hport]

theorem rdy_iff (s : State) : rdy s = true ↔ ∃ r, s.port = .ready r false := by
  unfold rdy
  cases s.port with
  | idle => simp
  | executing r since => simp
  | ready r mark => cases mark <;> simp

/-- Settles O50: what is driven follows the port's state. -/
theorem readsReturnTheHeldResponse : Obligations.ReadsReturnTheHeldResponse := by
  intro n s
  refine ⟨⟨Config.freeByte s.freeCount, fun r mark hport => ?_, fun hport => ?_⟩, fun r since hport => ?_, fun hfree => ?_, rdy_iff s⟩
  · rw [← responseFrame_eq]
    dsimp only
    rw [← drivenBytes_eq]
    exact congrArg Host.Outcome.next (readResponse_of_ready hport)
  · rw [← notReadyFrame_eq]
    dsimp only
    rw [← drivenBytes_eq]
    exact congrArg Host.Outcome.next (readResponse_of_not_ready hport)
  · refine congrArg Host.Outcome.next ?_
    rw [makeReady, hport]
  · refine congrArg Host.Outcome.next ?_
    cases hport : s.port with
    | executing r since => exact absurd ⟨r, since, hport⟩ hfree
    | idle => rw [makeReady, hport]
    | ready r mark => rw [makeReady, hport]

/-! ### The transmitter's choice (R157) -/

/-- A search ends behind a part where nothing passes. -/
theorem findIdx?_append_cons {α : Type} {f : α → Bool} {pre post : List α} {x : α} (hpre : ∀ y ∈ pre, f y = false)
    (hx : f x = true) : (pre ++ x :: post).findIdx? f = some pre.length := by
  rw [List.findIdx?_append, List.findIdx?_eq_none_iff.mpr hpre, Option.none_or, List.findIdx?_cons, if_pos hx]
  simp

/-- The choice is the oldest WAITING RELEASE, or the oldest WAITING entry where no RELEASE waits (R157). -/
theorem chosenEntry_append_cons {pre post : List Directive} {d : Directive} (hd : d.sending = false)
    (hpre : ∀ e ∈ pre, e.sending = true ∨ (d.kind = .release ∧ e.kind ≠ .release))
    (hpost : d.kind ≠ .release → ∀ e ∈ post, e.sending = true ∨ e.kind ≠ .release) :
    chosenEntry (pre ++ d :: post) = some pre.length := by
  have hpass : ∀ e : Directive, (e.sending = true ∨ e.kind ≠ .release) → (!e.sending && isRelease e.kind) = false := by
    rintro e (h | h)
    · rw [h]
      rfl
    · rw [isRelease_eq_false_iff.mpr h, Bool.and_false]
  have hbefore : ∀ e ∈ pre, (!e.sending && isRelease e.kind) = false := fun e he =>
    hpass e ((hpre e he).imp_right And.right)
  unfold chosenEntry
  by_cases hrelease : d.kind = .release
  · rw [findIdx?_append_cons hbefore (by rw [hd, hrelease]; rfl)]
  · have hnone : (pre ++ d :: post).findIdx? (fun d => !d.sending && isRelease d.kind) = none := by
      refine List.findIdx?_eq_none_iff.mpr fun e he => ?_
      rcases List.mem_append.mp he with hmem | hmem
      · exact hbefore e hmem
      rcases List.mem_cons.mp hmem with rfl | hmem
      · exact hpass _ (.inr hrelease)
      · exact hpass e (hpost hrelease e hmem)
    rw [hnone]
    refine findIdx?_append_cons (fun e he => ?_) (by rw [hd]; rfl)
    rw [(hpre e he).resolve_right fun h => hrelease h.1]
    rfl

theorem chosenEntry_of_sending {q : List Directive} (h : ∀ d ∈ q, d.sending = true) : chosenEntry q = none := by
  cases hq : chosenEntry q with
  | none => rfl
  | some i =>
    obtain ⟨d, hd, hs⟩ := chosenEntry_spec hq
    rw [h d (List.mem_of_getElem? hd)] at hs
    exact absurd hs (by decide)

theorem transmitNext_append_cons {now : Time} {s : State} {pre post : List Directive} {d : Directive}
    (hidle : s.transmitter = none) (hq : s.directives = pre ++ d :: post) (hd : d.sending = false)
    (hpre : ∀ e ∈ pre, e.sending = true ∨ (d.kind = .release ∧ e.kind ≠ .release))
    (hpost : d.kind ≠ .release → ∀ e ∈ post, e.sending = true ∨ e.kind ≠ .release) :
    transmitNext now s =
      { s with
        directives := pre ++ { d with sending := true } :: post
        transmitter := some { frame := directiveFrame d, since := now } } := by
  have hchosen : chosenEntry s.directives = some pre.length := hq ▸ chosenEntry_append_cons hd hpre hpost
  have hget : s.directives[pre.length]? = some d := by rw [hq]; simp
  have hset : s.directives.set pre.length { d with sending := true } = pre ++ { d with sending := true } :: post := by
    rw [hq]
    simp
  rw [transmitNext_of_idle hidle hchosen hget, hset]

/-! ### The frame of a directive (R149, R153) -/

theorem length_frameOf (kind : Byte) (body : List Byte) : (frameOf kind body).length = body.length + 5 := by
  simp [frameOf]

theorem frameOf_eq (kind : Byte) (body : List Byte) :
    frameOf kind body =
      [0xA5#8, byteOf body.length, kind] ++ (body ++ le16 (crc16 (byteOf body.length :: kind :: body))) := by
  simp [frameOf]

theorem field_frame_body {kind : Byte} {body : List Byte} {o n : Nat} {v : Int} (h : Field body o n v) :
    Field (frameOf kind body) (3 + o) n v := by
  rw [frameOf_eq]
  exact field_append_left (field_append_right h _) rfl

theorem frameParts_frameOf (kind : Byte) (body : List Byte) : FrameParts (frameOf kind body) kind body.length := by
  have hcovered : ((frameOf kind body).drop 1).take (body.length + 2) = byteOf body.length :: kind :: body := by
    simp [frameOf]
  have hcheck : Field (le16 (crc16 (byteOf body.length :: kind :: body))) 0 2
      (crc16 (byteOf body.length :: kind :: body)).toNat := field_of_half rfl
  refine ⟨length_frameOf kind body, field_of_byte (b := 0xA5) rfl, field_of_byteOf rfl, field_of_byte (b := kind) rfl, ?_⟩
  rw [hcovered, frameOf_eq, ← List.append_assoc]
  have hlength : ([0xA5#8, byteOf body.length, kind] ++ body).length = body.length + 3 := by
    simp only [List.length_append, List.length_cons, List.length_nil]
    omega
  exact field_append_left (o := 0) hcheck hlength

theorem directiveLayout_directiveFrame (d : Directive) : DirectiveLayout d (directiveFrame d) := by
  obtain ⟨junction, kind, tag, sending⟩ := d
  cases kind with
  | extend phase amount | advance phase amount =>
    exact ⟨field_frame_body (o := 0) (field_of_byteOf rfl), field_frame_body (o := 1) (field_of_byte (b := tag) rfl),
      frameParts_frameOf _ ([byteOf junction.val, tag, byteOf phase] ++ le16Nat amount),
      field_frame_body (o := 2) (field_of_byteOf rfl), field_frame_body (o := 3) (field_of_halfNat rfl)⟩
  | trim amount =>
    exact ⟨field_frame_body (o := 0) (field_of_byteOf rfl), field_frame_body (o := 1) (field_of_byte (b := tag) rfl),
      frameParts_frameOf _ ([byteOf junction.val, tag] ++ le16Int amount), field_frame_body (o := 2) (field_of_halfInt rfl)⟩
  | release =>
    exact ⟨field_frame_body (o := 0) (field_of_byteOf rfl), field_frame_body (o := 1) (field_of_byte (b := tag) rfl),
      frameParts_frameOf _ [byteOf junction.val, tag]⟩

/-- Settles O46: the queue in front of and behind the chosen entry, and a new entry at its tail. -/
theorem transmitterTakesReleasesFirst : Obligations.TransmitterTakesReleasesFirst := by
  intro now s
  refine ⟨?_, fun pre post d hidle hq hd hpre hpost => ?_, fun j kind tag => ⟨rfl, fun hbusy => ?_, fun hidle hall => ?_⟩,
    fun j tag => ⟨fun hset => ?_, fun hclear => ?_⟩⟩
  · rintro (hbusy | hall)
    · exact transmitNext_of_busy hbusy
    · exact transmitNext_of_none (chosenEntry_of_sending hall)
  · exact ⟨directiveFrame d, directiveLayout_directiveFrame d, transmitNext_append_cons hidle hq hd hpre hpost⟩
  · exact transmitNext_of_busy (s := { s with directives := s.directives ++ [_] }) hbusy
  · exact ⟨_, directiveLayout_directiveFrame _,
      transmitNext_append_cons (s := { s with directives := s.directives ++ [_] }) hidle rfl rfl (fun e he => .inl (hall e he))
        fun _ => nofun⟩
  · rw [queueRelease, if_pos hset]
    simp only [isRelease_iff]
  · rw [queueRelease, hclear, if_neg Bool.false_ne_true]
    exact queueDirective_onJunction now j _ .release tag s

/-! ### SENT_EVENT (R109, R158) -/

theorem find?_append_cons {α : Type} {f : α → Bool} {pre post : List α} {x : α} (hpre : ∀ y ∈ pre, f y = false)
    (hx : f x = true) : (pre ++ x :: post).find? f = some x := by
  rw [List.find?_append, List.find?_eq_none.mpr fun y hy => by rw [hpre y hy]; exact Bool.false_ne_true, Option.none_or,
    List.find?_cons_of_pos hx]

theorem eraseP_append_cons {α : Type} {f : α → Bool} {pre post : List α} {x : α} (hpre : ∀ y ∈ pre, f y = false)
    (hx : f x = true) : (pre ++ x :: post).eraseP f = pre ++ post := by
  rw [List.eraseP_append_right _ fun y hy => by rw [hpre y hy]; exact Bool.false_ne_true, List.eraseP_cons_of_pos hx]

/-- The accept deadline a sent directive sets, where its tag is still outstanding (R109). -/
def answerDue (deadline : Time) (tag : Byte) (c : Junction) : Junction :=
  { c with
    acceptDeadline := if c.outstanding.map Outstanding.tag = some tag then some deadline else c.acceptDeadline }

theorem reportSent_eq (now : Time) (j : JunctionId) (tag : Byte) (s : State) :
    reportSent now j tag s = onJunction j (answerDue (timeAdd now s.policy.acceptTimeout) tag) s := by
  have hany : ∀ x : Option Outstanding, (x.any fun o => decide (o.tag = tag)) = true ↔ x.map Outstanding.tag = some tag := by
    intro x
    cases x <;> simp
  unfold reportSent
  refine onJunction_congr ?_
  unfold answerDue
  by_cases htag : (junctionAt s j).outstanding.map Outstanding.tag = some tag
  · exact (if_pos ((hany _).mpr htag)).trans (by rw [if_pos htag])
  · exact (if_neg (mt (hany _).mp htag)).trans (by rw [if_neg htag])

/-- Settles O47: the one SENDING entry leaves the queue, and its kind decides what follows. -/
theorem sentEventFreesTheLine : Obligations.SentEventFreesTheLine := by
  intro s
  refine ⟨fun hidle => ?_, fun pre post d hbusy hq hd hpre => ?_⟩
  · refine congrArg Host.Outcome.next ?_
    rw [sentEvent, hidle]
  obtain ⟨x, hx⟩ := Option.isSome_iff_exists.mp hbusy
  have hfound : sendingEntry s = some d := by
    rw [sendingEntry, hq]
    exact find?_append_cons hpre hd
  have herased : s.directives.eraseP Directive.sending = pre ++ post := by
    rw [hq]
    exact eraseP_append_cons hpre hd
  have hsent : sentEvent s.time s =
      if isRelease d.kind then transmitNext s.time (onJunction d.junction (fun c => { c with releaseQueued := false })
        { s with directives := pre ++ post, transmitter := none })
      else issueCheck s.time d.junction (transmitNext s.time (reportSent s.time d.junction d.tag
        { s with directives := pre ++ post, transmitter := none })) := by
    rw [sentEvent, hx, hfound, herased]
  refine ⟨fun hrelease => ?_, fun hother => ?_⟩
  · exact congrArg Host.Outcome.next (hsent.trans (if_pos (isRelease_iff.mpr hrelease)))
  · refine congrArg Host.Outcome.next ?_
    rw [hsent, isRelease_eq_false_iff.mpr hother, if_neg Bool.false_ne_true, reportSent_eq]
    rfl

/-! ### Discarded frames (R150, R151, R154) -/

/-- A kind that a link knows has a body (R152, R153). -/
theorem bodySize_ne_zero {link : Link} {kind : Byte} {n : Nat} (h : bodySize link kind = some n) : n ≠ 0 := by
  rintro rfl
  revert h
  cases link
  · unfold bodySize detectionSize
    split_ifs <;> simp
  · unfold bodySize junctionSize
    split_ifs <;> simp

theorem exec_frameCommand (m : JunctionMsg) (s : State) :
    exec (frameCommand m) s = .next (deliverJunction m (setAssembler .junction .hunt s)) := by
  cases m <;> rfl

theorem deliverJunction_of_above {m : JunctionMsg} (h : 15 < (msgJunction m).toNat) (s : State) :
    deliverJunction m s = raise .frameError s := by
  rw [deliverJunction, junctionOf_of_above h]

/-- Settles O45: each byte by the assembler's phase, and each cause of R151. -/
theorem discardedFramesRaiseFrameError : Obligations.DiscardedFramesRaiseFrameError := by
  intro link s
  have hbyte : ∀ b e, exec (.linkByteReceived link b e) s = .next (receiveByte link b e s) := fun b e => rfl
  have hgap : exec (.gapDeadlineExpiry link) s =
      .next (if (due s.time (gapOf (assemblerOf s link))).isSome then discardFrame link s else s) := by
    simp only [exec, execGapDeadlineExpiry]
    cases due s.time (gapOf (assemblerOf s link)) <;> rfl
  refine ⟨⟨fun cause => rfl, fun d hd => ?_, fun hhunt => ⟨?_, fun b e => ?_⟩, fun taken d b =>
    ⟨fun h => ?_, fun h hsize => ?_, fun h => ?_, fun h hlength => ?_⟩, fun hbusy b => ?_, fun taken d b h hsize => ?_,
    fun taken d b n h hn hlength hcheck => ?_⟩, fun m hm => ⟨?_, ?_⟩⟩
  · rw [hgap, Option.mem_def.mp hd, due_some]
    split <;> rfl
  · rw [hgap, hhunt]
    rfl
  · rw [hbyte, receiveByte, hhunt]
    rfl
  · rw [hbyte, receiveByte, h]
    rfl
  · rw [hbyte, receiveByte, h]
    refine congrArg Host.Outcome.next ((if_neg Bool.false_ne_true).trans ?_)
    rw [takeByte, if_pos hsize, if_neg (bodySize_ne_zero hsize)]
    rfl
  · rw [hbyte, receiveByte, h]
    rfl
  · rw [hbyte, receiveByte, h]
    refine congrArg Host.Outcome.next ((if_neg Bool.false_ne_true).trans ?_)
    rw [takeByte, if_pos hlength]
    rfl
  · rw [hbyte, receiveByte]
    cases hrx : assemblerOf s link with
    | hunt => exact absurd hrx hbusy
    | receiving phase taken d => rfl
  · rw [hbyte, receiveByte, h]
    refine congrArg Host.Outcome.next ((if_neg Bool.false_ne_true).trans ?_)
    rw [takeByte, if_neg hsize]
    rfl
  · rw [hbyte, receiveByte, h]
    refine congrArg Host.Outcome.next ((if_neg Bool.false_ne_true).trans ?_)
    subst hn
    rw [takeByte, if_neg (by omega), completeFrame]
    exact if_neg hcheck
  · exact congrArg Host.Outcome.next (deliverJunction_of_above hm _)
  · rw [exec_frameCommand]
    exact congrArg Host.Outcome.next (deliverJunction_of_above hm _)

end Sys2Proof.Proofs

/-! Commands and messages read from their bytes: the port's transactions (O49) and the links' frames (O44). -/

namespace Sys2Proof.Proofs

open Sys2Proof.Machine Sys2Proof.Safety Sys2Proof.Laws

/-! ### A command and the body it is read from (R162) -/

/-- The command with the code of a command, read from a body. -/
def commandRead (l : List Byte) : Command → Command
  | .planStage _ => .planStage (planBodyOf l)
  | .planRead _ _ => .planRead (byteAt l 0) (byteAt l 1)
  | .segmentSet _ => .segmentSet (segmentBodyOf l)
  | .segmentRead _ => .segmentRead (byteAt l 0)
  | .policySet _ => .policySet (policyBodyOf l)
  | .policyRead => .policyRead
  | .junctionQuery _ => .junctionQuery (byteAt l 0)
  | .junctionSuspend _ => .junctionSuspend (byteAt l 0)
  | .junctionResume _ => .junctionResume (byteAt l 0)
  | .recordLookup _ => .recordLookup (recordNameOf l)
  | .recordRetire _ => .recordRetire (recordNameOf l)
  | .recordForce _ => .recordForce (recordNameOf l)
  | .listStart _ => .listStart (byteAt l 0)
  | .listContinue => .listContinue
  | .noticeRead => .noticeRead
  | .noticeWrite _ _ _ => .noticeWrite (byteAt l 0) (byteAt l 1) (halfAt l 2)
  | .corridorClear => .corridorClear

theorem commandOf_number {c : Command} {l : List Byte} (h : l.length = commandLength c) :
    commandOf (commandNumber c) l = some (commandRead l c) := by
  have hsize : ¬commandSize (commandNumber c) ≠ some l.length := by
    rw [commandSize_commandNumber, h]
    exact not_not.mpr rfl
  rw [commandOf, if_neg hsize]
  cases c <;> rfl

theorem nameLayout_recordNameOf {l : List Byte} (h : l.length = 6) : NameLayout (recordNameOf l) l :=
  ⟨field_byteAt (by omega), field_halfAt (by omega), field_byteAt (by omega), field_byteAt (by omega), field_byteAt (by omega)⟩

theorem commandLayout_commandRead {c : Command} {l : List Byte} (h : l.length = commandLength c) :
    CommandLayout (commandNumber c) l (commandRead l c) := by
  cases c with
  | planStage _ => exact ⟨rfl, h, planBodyLayout_planBodyOf h⟩
  | planRead _ _ =>
    have hlength : l.length = 2 := h
    exact ⟨rfl, h, field_byteAt (by omega), field_byteAt (by omega)⟩
  | segmentSet _ =>
    have hlength : l.length = 11 := h
    exact ⟨rfl, h, field_byteAt (by omega), field_byteAt (by omega), field_byteAt (by omega), field_halfAt (by omega),
      field_halfAt (by omega), field_halfAt (by omega), field_halfAt (by omega)⟩
  | policySet _ => exact ⟨rfl, h, policyBodyLayout_policyBodyOf h⟩
  | segmentRead _ | junctionQuery _ | junctionSuspend _ | junctionResume _ | listStart _ =>
    have hlength : l.length = 1 := h
    exact ⟨rfl, h, field_byteAt (by omega)⟩
  | policyRead | listContinue | noticeRead | corridorClear => exact ⟨rfl, h, trivial⟩
  | recordLookup _ | recordRetire _ | recordForce _ => exact ⟨rfl, h, nameLayout_recordNameOf h⟩
  | noticeWrite _ _ _ =>
    have hlength : l.length = 4 := h
    exact ⟨rfl, h, field_byteAt (by omega), field_byteAt (by omega), field_halfAt (by omega)⟩

theorem byteAt_eq_of_field {l : List Byte} {o : Nat} {b : Byte} (h : Field l o 1 b.toNat) : byteAt l o = b :=
  ((field_byte l o b).mp h).2

theorem halfAt_eq_of_field {l : List Byte} {o : Nat} {w : Half} (h : Field l o 2 w.toNat) : halfAt l o = w :=
  ((field_half l o w).mp h).2

/-- A body that holds a plan body's fields is read as that plan body. -/
theorem planBodyOf_of_layout {b : PlanBody} {l : List Byte} (h : PlanBodyLayout b l) : planBodyOf l = b := by
  obtain ⟨junction, planId, cycle, count, steps, approaches⟩ := b
  obtain ⟨h0, h1, h2, h4, hsteps, happroaches⟩ := h
  simp only [planBodyOf, PlanBody.mk.injEq]
  refine ⟨byteAt_eq_of_field h0, byteAt_eq_of_field h1, halfAt_eq_of_field h2, byteAt_eq_of_field h4,
    Vector.ext fun k hk => ?_, Vector.ext fun q hq => ?_⟩
  · obtain ⟨s0, s1, s3, s5, s6, s8⟩ := hsteps ⟨k, hk⟩
    rw [Vector.getElem_ofFn]
    exact StepBody.mk.injEq .. ▸ ⟨byteAt_eq_of_field s0, halfAt_eq_of_field s1, halfAt_eq_of_field s3,
      byteAt_eq_of_field s5, halfAt_eq_of_field s6, halfAt_eq_of_field s8⟩
  · obtain ⟨a0, a1⟩ := happroaches ⟨q, hq⟩
    rw [Vector.getElem_ofFn]
    exact ApproachBody.mk.injEq .. ▸ ⟨byteAt_eq_of_field a0, byteAt_eq_of_field a1⟩

theorem policyBodyOf_of_layout {b : PolicyBody} {l : List Byte} (h : PolicyBodyLayout b l) : policyBodyOf l = b := by
  obtain ⟨horizon, guardTime, early, threshold, minGrant, partials, decisionLife, debtLimit, recoveryRate, lockoutCycles,
    recordLifetime, acceptTimeout, linkTimeout, syncTolerance, passageLifetime, staleTime⟩ := b
  obtain ⟨h0, h2, h3, h5, h7, h8, h9, h10, h12, h13, h14, h16, h17, h18, h19, h21⟩ := h
  simp only [policyBodyOf, PolicyBody.mk.injEq]
  exact ⟨halfAt_eq_of_field h0, byteAt_eq_of_field h2, halfAt_eq_of_field h3, halfAt_eq_of_field h5, byteAt_eq_of_field h7,
    byteAt_eq_of_field h8, byteAt_eq_of_field h9, halfAt_eq_of_field h10, byteAt_eq_of_field h12, byteAt_eq_of_field h13,
    halfAt_eq_of_field h14, byteAt_eq_of_field h16, byteAt_eq_of_field h17, byteAt_eq_of_field h18,
    halfAt_eq_of_field h19, halfAt_eq_of_field h21⟩

theorem recordNameOf_of_layout {n : RecordName} {l : List Byte} (h : NameLayout n l) : recordNameOf l = n := by
  obtain ⟨mode, vehicle, junction, slot, generation⟩ := n
  obtain ⟨h0, h1, h3, h4, h5⟩ := h
  simp only [recordNameOf, RecordName.mk.injEq]
  exact ⟨byteAt_eq_of_field h0, halfAt_eq_of_field h1, byteAt_eq_of_field h3, byteAt_eq_of_field h4, byteAt_eq_of_field h5⟩

theorem segmentBodyOf_of_layout {b : SegmentBody} {kind : Byte} {l : List Byte}
    (h : CommandLayout kind l (.segmentSet b)) : segmentBodyOf l = b := by
  obtain ⟨segment, source, target, length, tmin, tcap, tnom⟩ := b
  obtain ⟨-, -, h0, h1, h2, h3, h5, h7, h9⟩ := h
  simp only [segmentBodyOf, SegmentBody.mk.injEq]
  exact ⟨byteAt_eq_of_field h0, byteAt_eq_of_field h1, byteAt_eq_of_field h2, halfAt_eq_of_field h3,
    halfAt_eq_of_field h5, halfAt_eq_of_field h7, halfAt_eq_of_field h9⟩

/-- A body that holds a command's fields is read as that command. -/
theorem commandRead_of_layout {c : Command} {kind : Byte} {l : List Byte} (h : CommandLayout kind l c) :
    commandRead l c = c := by
  have hall := h
  obtain ⟨-, -, hfields⟩ := h
  cases c with
  | planStage b => exact congrArg Command.planStage (planBodyOf_of_layout hfields)
  | planRead j k =>
    obtain ⟨h0, h1⟩ := hfields
    exact congrArg₂ Command.planRead (byteAt_eq_of_field h0) (byteAt_eq_of_field h1)
  | segmentSet b => exact congrArg Command.segmentSet (segmentBodyOf_of_layout hall)
  | segmentRead k => exact congrArg Command.segmentRead (byteAt_eq_of_field hfields)
  | policySet b => exact congrArg Command.policySet (policyBodyOf_of_layout hfields)
  | junctionQuery j => exact congrArg Command.junctionQuery (byteAt_eq_of_field hfields)
  | junctionSuspend j => exact congrArg Command.junctionSuspend (byteAt_eq_of_field hfields)
  | junctionResume j => exact congrArg Command.junctionResume (byteAt_eq_of_field hfields)
  | recordLookup n => exact congrArg Command.recordLookup (recordNameOf_of_layout hfields)
  | recordRetire n => exact congrArg Command.recordRetire (recordNameOf_of_layout hfields)
  | recordForce n => exact congrArg Command.recordForce (recordNameOf_of_layout hfields)
  | listStart j => exact congrArg Command.listStart (byteAt_eq_of_field hfields)
  | noticeWrite t a m =>
    obtain ⟨h0, h1, h2⟩ := hfields
    rw [commandRead, byteAt_eq_of_field h0, byteAt_eq_of_field h1, halfAt_eq_of_field h2]
  | policyRead | listContinue | noticeRead | corridorClear => rfl

theorem eq_some_of_ite {α : Type} {p : Prop} [Decidable p] {a b : α} {x : Option α}
    (h : (if p then some a else x) = some b) : (p ∧ a = b) ∨ x = some b := by
  by_cases hp : p
  · rw [if_pos hp] at h
    exact .inl ⟨hp, Option.some.inj h⟩
  · rw [if_neg hp] at h
    exact .inr h

/-- A body is a command only under that command's code, and has its length. -/
theorem number_of_commandOf {kind : Byte} {l : List Byte} {c : Command} (h : commandOf kind l = some c) :
    kind = commandNumber c ∧ l.length = commandLength c := by
  have hkind : kind = commandNumber c ∧ commandSize kind = some l.length := by
    unfold commandOf at h
    obtain ⟨hsize, h⟩ := Option.ite_none_left_eq_some.mp h
    have hlength := not_not.mp hsize
    iterate 17
      obtain ⟨hnumber, rfl⟩ | h := eq_some_of_ite h
      · exact ⟨hnumber, hlength⟩
    cases h
  obtain ⟨rfl, hsize⟩ := hkind
  rw [commandSize_commandNumber] at hsize
  exact ⟨rfl, (Option.some.inj hsize).symm⟩

theorem commandOf_eq_some_iff (kind : Byte) (l : List Byte) (c : Command) :
    commandOf kind l = some c ↔ CommandLayout kind l c := by
  constructor
  · intro h
    obtain ⟨rfl, hlength⟩ := number_of_commandOf h
    have hread : commandRead l c = c := Option.some.inj ((commandOf_number hlength).symm.trans h)
    have hlayout := commandLayout_commandRead hlength
    rwa [hread] at hlayout
  · intro h
    have hread := commandRead_of_layout h
    obtain ⟨rfl, hlength, -⟩ := h
    rw [commandOf_number hlength, hread]

/-! ### The port's transactions (R149, R160) -/

theorem commandLength_lt (c : Command) : commandLength c < 256 := by
  cases c <;> simp [commandLength]

theorem byteOf_toNat_of_lt {n : Nat} (h : n < 256) : (byteOf n).toNat = n := by
  rw [byteOf_toNat, Nat.mod_eq_of_lt h]

/-- The bytes behind the sync byte form a command exactly where they are a frame of that command's fields. -/
theorem commandFrame_eq_some_iff (rest : List Byte) (c : Command) :
    commandFrame rest = some c ↔ ∃ kind body, CommandLayout kind body c ∧ 0xA5#8 :: rest = frameOf kind body := by
  constructor
  · intro h
    rcases rest with _ | ⟨len, _ | ⟨kind, tail⟩⟩
    · cases h
    · cases h
    rw [commandFrame] at h
    split at h
    · next hframe =>
      obtain ⟨hlength, hcheck⟩ := hframe
      refine ⟨kind, tail.take len.toNat, (commandOf_eq_some_iff ..).mp h, ?_⟩
      have hlen : byteOf (tail.take len.toNat).length = len := by
        rw [List.length_take, hlength, Nat.min_eq_left (by omega)]
        exact BitVec.eq_of_toNat_eq (byteOf_toNat_of_lt len.isLt)
      have htail : tail = tail.take len.toNat ++ tail.drop len.toNat := (List.take_append_drop ..).symm
      rw [frameOf, hlen, ← hcheck, List.cons_append, List.cons_append, ← htail]
    · cases h
  · rintro ⟨kind, body, hlayout, hframe⟩
    have hbody : body.length < 256 := by
      obtain ⟨-, hlength, -⟩ := id hlayout
      exact hlength ▸ commandLength_lt c
    have hlen : (byteOf body.length).toNat = body.length := byteOf_toNat_of_lt hbody
    obtain rfl : rest = byteOf body.length :: kind :: (body ++ le16 (crc16 (byteOf body.length :: kind :: body))) :=
      (List.cons.inj hframe).2
    rw [commandFrame, hlen, List.take_left, List.drop_left, if_pos ⟨by rw [List.length_append, length_le16], rfl⟩]
    exact (commandOf_eq_some_iff ..).mpr hlayout

/-- Settles O49: the bytes of a frame hold one command, and any other bytes none. -/
theorem transactionsAreReadByTheirBytes : Obligations.TransactionsAreReadByTheirBytes := by
  refine ⟨fun kind body => ⟨commandOf_eq_some_iff kind body, ?_⟩, fun first rest s => ⟨?_, ?_, ?_, ?_⟩⟩
  · rintro c rfl hlength
    exact ⟨commandRead body c, commandLayout_commandRead hlength⟩
  · rintro rfl c cmd kind body hcmd hlayout hframe
    have hrest : rest.length + 1 = (commandSize (commandCode cmd)).getD 0 + 5 := by
      obtain ⟨-, hlength, -⟩ := id hlayout
      rw [commandCode_eq, commandSize_commandNumber, Option.getD_some, ← hlength, ← length_frameOf kind body, ← hframe,
        List.length_cons]
    rw [exec_of_supervisorCommand hcmd]
    refine congrArg Host.Outcome.next ?_
    rw [transaction, if_pos rfl, (commandFrame_eq_some_iff rest cmd).mpr ⟨kind, body, hlayout, hframe⟩, command, hrest]
  · rintro rfl hnone
    have hframe : commandFrame rest = none := Option.eq_none_iff_forall_ne_some.mpr fun c hc => by
      obtain ⟨kind, body, hlayout, hframe⟩ := (commandFrame_eq_some_iff rest c).mp hc
      exact hnone kind body c hlayout hframe
    refine congrArg Host.Outcome.next ?_
    rw [transaction, if_pos rfl, hframe]
    rfl
  · rintro rfl
    rfl
  · intro hcommand hread
    refine ⟨_, ?_, congrArg Host.Outcome.next ((if_neg hcommand).trans (if_neg hread))⟩
    rw [List.length_map, List.length_range]

end Sys2Proof.Proofs

/-! The frames of the links, byte by byte (O44). -/

namespace Sys2Proof.Proofs

open Sys2Proof.Machine Sys2Proof.Safety Sys2Proof.Laws

/-! ### The messages and the bodies they are read from (R152, R153) -/

/-- The CHECK_IN read from a body. -/
def checkInOf (l : List Byte) : CheckInMsg where
  vehicle := halfAt l 0
  junction := byteAt l 2
  approach := byteAt l 3
  cls := byteAt l 4
  sequence := byteAt l 5
  distance := halfAt l 7
  speed := halfAt l 9
  dwell := presentIf (byteAt l 6) 0 (halfAt l 11)
  deviation := presentIf (byteAt l 6) 1 (halfAt l 13)
  occupancy := presentIf (byteAt l 6) 2 (byteAt l 15)

/-- The UPDATE read from a body. -/
def updateOf (l : List Byte) : UpdateMsg where
  vehicle := halfAt l 0
  junction := byteAt l 2
  sequence := byteAt l 3
  distance := presentIf (byteAt l 4) 0 (halfAt l 5)
  speed := presentIf (byteAt l 4) 1 (halfAt l 7)
  dwell := presentIf (byteAt l 4) 2 (halfAt l 9)
  deviation := presentIf (byteAt l 4) 3 (halfAt l 11)
  occupancy := presentIf (byteAt l 4) 4 (byteAt l 13)

/-- The detection link message read from a body of the message's kind. -/
def detectionRead (l : List Byte) : DetectionMsg → DetectionMsg
  | .checkIn _ => .checkIn (checkInOf l)
  | .update _ => .update (updateOf l)
  | .checkOut _ _ => .checkOut (halfAt l 0) (byteAt l 2)
  | .cancel _ _ => .cancel (halfAt l 0) (byteAt l 2)

/-- The code of a detection link message (R152). -/
def detectionNumber : DetectionMsg → Byte
  | .checkIn _ => 0x11
  | .update _ => 0x12
  | .checkOut _ _ => 0x13
  | .cancel _ _ => 0x14

/-- The body length of a detection link message (R152). -/
def detectionLength : DetectionMsg → Nat
  | .checkIn _ => 16
  | .update _ => 14
  | .checkOut _ _ => 3
  | .cancel _ _ => 3

theorem detectionMsg_checkIn : ∀ {l : List Byte}, l.length = 16 → detectionMsg 0x11 l = some (.checkIn (checkInOf l))
  | [_, _, _, _, _, _, _, _, _, _, _, _, _, _, _, _], _ => rfl

theorem detectionMsg_update : ∀ {l : List Byte}, l.length = 14 → detectionMsg 0x12 l = some (.update (updateOf l))
  | [_, _, _, _, _, _, _, _, _, _, _, _, _, _], _ => rfl

theorem detectionMsg_checkOut : ∀ {l : List Byte}, l.length = 3 →
    detectionMsg 0x13 l = some (.checkOut (halfAt l 0) (byteAt l 2))
  | [_, _, _], _ => rfl

theorem detectionMsg_cancel : ∀ {l : List Byte}, l.length = 3 →
    detectionMsg 0x14 l = some (.cancel (halfAt l 0) (byteAt l 2))
  | [_, _, _], _ => rfl

theorem detectionMsg_number {m : DetectionMsg} {l : List Byte} (h : l.length = detectionLength m) :
    detectionMsg (detectionNumber m) l = some (detectionRead l m) := by
  cases m with
  | checkIn _ => exact detectionMsg_checkIn h
  | update _ => exact detectionMsg_update h
  | checkOut _ _ => exact detectionMsg_checkOut h
  | cancel _ _ => exact detectionMsg_cancel h

/-- A body is a message only under that message's code, and has its length. -/
theorem number_of_detectionMsg {kind : Byte} {l : List Byte} {m : DetectionMsg} (h : detectionMsg kind l = some m) :
    kind = detectionNumber m ∧ l.length = detectionLength m := by
  unfold detectionMsg at h
  split at h
  · obtain ⟨hkind, h⟩ := Option.ite_none_right_eq_some.mp h
    obtain rfl := Option.some.inj h
    exact ⟨hkind, rfl⟩
  · obtain ⟨hkind, h⟩ := Option.ite_none_right_eq_some.mp h
    obtain rfl := Option.some.inj h
    exact ⟨hkind, rfl⟩
  · obtain ⟨hkind, rfl⟩ | h := eq_some_of_ite h
    · exact ⟨hkind, rfl⟩
    obtain ⟨hkind, rfl⟩ | h := eq_some_of_ite h
    · exact ⟨hkind, rfl⟩
    cases h
  · cases h

/-- An optional field of two bytes is there where its bit is set (R152). -/
theorem fieldIf_half_iff {l : List Byte} {p : Byte} {bit o : Nat} (x : Option Half) (ho : o + 1 < l.length) :
    FieldIf l p bit o 2 (x.map BitVec.toNat) ↔ x = presentIf p bit (halfAt l o) := by
  unfold FieldIf presentIf
  cases x with
  | none => cases p.getLsbD bit <;> simp
  | some w =>
    have hfield : Field l o 2 w.toNat ↔ w = halfAt l o := (field_half l o w).trans ((and_iff_right ho).trans eq_comm)
    cases p.getLsbD bit <;> simp [hfield]

theorem fieldIf_byte_iff {l : List Byte} {p : Byte} {bit o : Nat} (x : Option Byte) (ho : o < l.length) :
    FieldIf l p bit o 1 (x.map BitVec.toNat) ↔ x = presentIf p bit (byteAt l o) := by
  unfold FieldIf presentIf
  cases x with
  | none => cases p.getLsbD bit <;> simp
  | some w =>
    have hfield : Field l o 1 w.toNat ↔ w = byteAt l o := (field_byte l o w).trans ((and_iff_right ho).trans eq_comm)
    cases p.getLsbD bit <;> simp [hfield]

theorem detectionLayout_detectionRead {m : DetectionMsg} {l : List Byte} (h : l.length = detectionLength m) :
    DetectionLayout (detectionNumber m) l (detectionRead l m) := by
  cases m with
  | checkIn _ =>
    have hlength : l.length = 16 := h
    exact ⟨rfl, h, field_halfAt (by omega), field_byteAt (by omega), field_byteAt (by omega), field_byteAt (by omega),
      field_byteAt (by omega), field_halfAt (by omega), field_halfAt (by omega), byteAt l 6, field_byteAt (by omega),
      (fieldIf_half_iff _ (by omega)).mpr rfl, (fieldIf_half_iff _ (by omega)).mpr rfl,
      (fieldIf_byte_iff _ (by omega)).mpr rfl⟩
  | update _ =>
    have hlength : l.length = 14 := h
    exact ⟨rfl, h, field_halfAt (by omega), field_byteAt (by omega), field_byteAt (by omega), byteAt l 4,
      field_byteAt (by omega), (fieldIf_half_iff _ (by omega)).mpr rfl, (fieldIf_half_iff _ (by omega)).mpr rfl,
      (fieldIf_half_iff _ (by omega)).mpr rfl, (fieldIf_half_iff _ (by omega)).mpr rfl,
      (fieldIf_byte_iff _ (by omega)).mpr rfl⟩
  | checkOut _ _ | cancel _ _ =>
    have hlength : l.length = 3 := h
    exact ⟨rfl, h, field_halfAt (by omega), field_byteAt (by omega)⟩

/-- A body that holds a message's fields is read as that message. -/
theorem detectionRead_of_layout {m : DetectionMsg} {kind : Byte} {l : List Byte} (h : DetectionLayout kind l m) :
    kind = detectionNumber m ∧ l.length = detectionLength m ∧ detectionRead l m = m := by
  cases m with
  | checkIn m =>
    obtain ⟨vehicle, junction, approach, cls, sequence, distance, speed, dwell, deviation, occupancy⟩ := m
    obtain ⟨hkind, hlength, h0, h2, h3, h4, h5, h7, h9, p, hp, hdwell, hdeviation, hoccupancy⟩ := h
    obtain rfl := byteAt_eq_of_field hp
    refine ⟨hkind, hlength, congrArg DetectionMsg.checkIn ?_⟩
    simp only [checkInOf, CheckInMsg.mk.injEq]
    exact ⟨halfAt_eq_of_field h0, byteAt_eq_of_field h2, byteAt_eq_of_field h3, byteAt_eq_of_field h4,
      byteAt_eq_of_field h5, halfAt_eq_of_field h7, halfAt_eq_of_field h9,
      ((fieldIf_half_iff dwell (by omega)).mp hdwell).symm, ((fieldIf_half_iff deviation (by omega)).mp hdeviation).symm,
      ((fieldIf_byte_iff occupancy (by omega)).mp hoccupancy).symm⟩
  | update m =>
    obtain ⟨vehicle, junction, sequence, distance, speed, dwell, deviation, occupancy⟩ := m
    obtain ⟨hkind, hlength, h0, h2, h3, p, hp, hdistance, hspeed, hdwell, hdeviation, hoccupancy⟩ := h
    obtain rfl := byteAt_eq_of_field hp
    refine ⟨hkind, hlength, congrArg DetectionMsg.update ?_⟩
    simp only [updateOf, UpdateMsg.mk.injEq]
    exact ⟨halfAt_eq_of_field h0, byteAt_eq_of_field h2, byteAt_eq_of_field h3,
      ((fieldIf_half_iff distance (by omega)).mp hdistance).symm, ((fieldIf_half_iff speed (by omega)).mp hspeed).symm,
      ((fieldIf_half_iff dwell (by omega)).mp hdwell).symm, ((fieldIf_half_iff deviation (by omega)).mp hdeviation).symm,
      ((fieldIf_byte_iff occupancy (by omega)).mp hoccupancy).symm⟩
  | checkOut v j =>
    obtain ⟨hkind, hlength, h0, h2⟩ := h
    exact ⟨hkind, hlength, congrArg₂ DetectionMsg.checkOut (halfAt_eq_of_field h0) (byteAt_eq_of_field h2)⟩
  | cancel v j =>
    obtain ⟨hkind, hlength, h0, h2⟩ := h
    exact ⟨hkind, hlength, congrArg₂ DetectionMsg.cancel (halfAt_eq_of_field h0) (byteAt_eq_of_field h2)⟩

theorem detectionMsg_eq_some_iff (kind : Byte) (l : List Byte) (m : DetectionMsg) :
    detectionMsg kind l = some m ↔ DetectionLayout kind l m := by
  constructor
  · intro h
    obtain ⟨rfl, hlength⟩ := number_of_detectionMsg h
    have hread : detectionRead l m = m := Option.some.inj ((detectionMsg_number hlength).symm.trans h)
    have hlayout := detectionLayout_detectionRead hlength
    rwa [hread] at hlayout
  · intro h
    obtain ⟨rfl, hlength, hread⟩ := detectionRead_of_layout h
    rw [detectionMsg_number hlength, hread]

/-- The junction link message read from a body of the message's kind. -/
def junctionRead (l : List Byte) : JunctionMsg → JunctionMsg
  | .status _ _ => .status (byteAt l 0) (byteAt l 1)
  | .cycleStart _ _ _ => .cycleStart (byteAt l 0) (byteAt l 1) (byteAt l 2)
  | .phaseStart _ _ => .phaseStart (byteAt l 0) (byteAt l 1)
  | .phaseEnd _ _ => .phaseEnd (byteAt l 0) (byteAt l 1)
  | .passage _ _ _ => .passage (byteAt l 0) (byteAt l 1) (halfAt l 2)
  | .accept _ _ => .accept (byteAt l 0) (byteAt l 1)
  | .decline _ _ _ => .decline (byteAt l 0) (byteAt l 1) (byteAt l 2)

/-- The code of a junction link message (R153). -/
def junctionNumber : JunctionMsg → Byte
  | .status _ _ => 0x21
  | .cycleStart _ _ _ => 0x22
  | .phaseStart _ _ => 0x23
  | .phaseEnd _ _ => 0x24
  | .passage _ _ _ => 0x25
  | .accept _ _ => 0x26
  | .decline _ _ _ => 0x27

/-- The body length of a junction link message (R153). -/
def junctionLength : JunctionMsg → Nat
  | .status _ _ => 2
  | .cycleStart _ _ _ => 3
  | .phaseStart _ _ => 2
  | .phaseEnd _ _ => 2
  | .passage _ _ _ => 4
  | .accept _ _ => 2
  | .decline _ _ _ => 3

theorem junctionMsg_number : ∀ {m : JunctionMsg} {l : List Byte}, l.length = junctionLength m →
    junctionMsg (junctionNumber m) l = some (junctionRead l m)
  | .status _ _, [_, _], _ => rfl
  | .cycleStart _ _ _, [_, _, _], _ => rfl
  | .phaseStart _ _, [_, _], _ => rfl
  | .phaseEnd _ _, [_, _], _ => rfl
  | .passage _ _ _, [_, _, _, _], _ => rfl
  | .accept _ _, [_, _], _ => rfl
  | .decline _ _ _, [_, _, _], _ => rfl

theorem number_of_junctionMsg {kind : Byte} {l : List Byte} {m : JunctionMsg} (h : junctionMsg kind l = some m) :
    kind = junctionNumber m ∧ l.length = junctionLength m := by
  unfold junctionMsg at h
  split at h
  · iterate 4
      obtain ⟨hkind, rfl⟩ | h := eq_some_of_ite h
      · exact ⟨hkind, rfl⟩
    cases h
  · iterate 2
      obtain ⟨hkind, rfl⟩ | h := eq_some_of_ite h
      · exact ⟨hkind, rfl⟩
    cases h
  · obtain ⟨hkind, h⟩ := Option.ite_none_right_eq_some.mp h
    obtain rfl := Option.some.inj h
    exact ⟨hkind, rfl⟩
  · cases h

theorem junctionLayout_junctionRead {m : JunctionMsg} {l : List Byte} (h : l.length = junctionLength m) :
    JunctionLayout (junctionNumber m) l (junctionRead l m) := by
  cases m with
  | status _ _ | phaseStart _ _ | phaseEnd _ _ | accept _ _ =>
    have hlength : l.length = 2 := h
    exact ⟨rfl, h, field_byteAt (by omega), field_byteAt (by omega)⟩
  | cycleStart _ _ _ | decline _ _ _ =>
    have hlength : l.length = 3 := h
    exact ⟨rfl, h, field_byteAt (by omega), field_byteAt (by omega), field_byteAt (by omega)⟩
  | passage _ _ _ =>
    have hlength : l.length = 4 := h
    exact ⟨rfl, h, field_byteAt (by omega), field_byteAt (by omega), field_halfAt (by omega)⟩

theorem junctionRead_of_layout {m : JunctionMsg} {kind : Byte} {l : List Byte} (h : JunctionLayout kind l m) :
    kind = junctionNumber m ∧ l.length = junctionLength m ∧ junctionRead l m = m := by
  cases m with
  | status _ _ | phaseStart _ _ | phaseEnd _ _ | accept _ _ =>
    obtain ⟨hkind, hlength, h0, h1⟩ := h
    exact ⟨hkind, hlength, by rw [junctionRead, byteAt_eq_of_field h0, byteAt_eq_of_field h1]⟩
  | cycleStart _ _ _ | decline _ _ _ =>
    obtain ⟨hkind, hlength, h0, h1, h2⟩ := h
    exact ⟨hkind, hlength, by rw [junctionRead, byteAt_eq_of_field h0, byteAt_eq_of_field h1, byteAt_eq_of_field h2]⟩
  | passage _ _ _ =>
    obtain ⟨hkind, hlength, h0, h1, h2⟩ := h
    exact ⟨hkind, hlength, by rw [junctionRead, byteAt_eq_of_field h0, byteAt_eq_of_field h1, halfAt_eq_of_field h2]⟩

theorem junctionMsg_eq_some_iff (kind : Byte) (l : List Byte) (m : JunctionMsg) :
    junctionMsg kind l = some m ↔ JunctionLayout kind l m := by
  constructor
  · intro h
    obtain ⟨rfl, hlength⟩ := number_of_junctionMsg h
    have hread : junctionRead l m = m := Option.some.inj ((junctionMsg_number hlength).symm.trans h)
    have hlayout := junctionLayout_junctionRead hlength
    rwa [hread] at hlayout
  · intro h
    obtain ⟨rfl, hlength, hread⟩ := junctionRead_of_layout h
    rw [junctionMsg_number hlength, hread]

/-! ### The codes and lengths a link knows (R152, R153) -/

theorem detectionNumber_of_linkKinds {kind : Byte} {n : Nat} (h : (kind, n) ∈ linkKinds .detection) :
    ∃ m, kind = detectionNumber m ∧ n = detectionLength m := by
  simp only [linkKinds, List.mem_cons, List.not_mem_nil, or_false, Prod.mk.injEq] at h
  obtain ⟨rfl, rfl⟩ | ⟨rfl, rfl⟩ | ⟨rfl, rfl⟩ | ⟨rfl, rfl⟩ := h
  · exact ⟨.checkIn (checkInOf []), rfl, rfl⟩
  · exact ⟨.update (updateOf []), rfl, rfl⟩
  · exact ⟨.checkOut 0 0, rfl, rfl⟩
  · exact ⟨.cancel 0 0, rfl, rfl⟩

theorem junctionNumber_of_linkKinds {kind : Byte} {n : Nat} (h : (kind, n) ∈ linkKinds .junction) :
    ∃ m, kind = junctionNumber m ∧ n = junctionLength m := by
  simp only [linkKinds, List.mem_cons, List.not_mem_nil, or_false, Prod.mk.injEq] at h
  obtain ⟨rfl, rfl⟩ | ⟨rfl, rfl⟩ | ⟨rfl, rfl⟩ | ⟨rfl, rfl⟩ | ⟨rfl, rfl⟩ | ⟨rfl, rfl⟩ | ⟨rfl, rfl⟩ := h
  · exact ⟨.status 0 0, rfl, rfl⟩
  · exact ⟨.cycleStart 0 0 0, rfl, rfl⟩
  · exact ⟨.phaseStart 0 0, rfl, rfl⟩
  · exact ⟨.phaseEnd 0 0, rfl, rfl⟩
  · exact ⟨.passage 0 0 0, rfl, rfl⟩
  · exact ⟨.accept 0 0, rfl, rfl⟩
  · exact ⟨.decline 0 0 0, rfl, rfl⟩

theorem bodySize_eq_some_iff (link : Link) (kind : Byte) (n : Nat) :
    bodySize link kind = some n ↔ (kind, n) ∈ linkKinds link := by
  constructor
  · intro h
    cases link
    · unfold bodySize detectionSize at h
      iterate 4
        obtain ⟨rfl, rfl⟩ | h := eq_some_of_ite h
        · decide
      cases h
    · unfold bodySize junctionSize at h
      iterate 7
        obtain ⟨rfl, rfl⟩ | h := eq_some_of_ite h
        · decide
      cases h
  · intro h
    cases link with
    | detection =>
      obtain ⟨m, rfl, rfl⟩ := detectionNumber_of_linkKinds h
      cases m <;> rfl
    | junction =>
      obtain ⟨m, rfl, rfl⟩ := junctionNumber_of_linkKinds h
      cases m <;> rfl

/-! ### A frame received byte by byte (R149, R150) -/

/-- The state after a list of bytes without a UART error. -/
def afterBytes (link : Link) (bytes : List Byte) (s : State) : State :=
  bytes.foldl (fun t b => receiveByte link b false t) s

theorem runCommands_received (link : Link) (bytes : List Byte) (s : State) :
    runCommands (Safety.received link bytes) s = .next (afterBytes link bytes s) := by
  induction bytes generalizing s with
  | nil => rfl
  | cons b bytes ih => exact ih (receiveByte link b false s)

theorem assemblerOf_setAssembler (link : Link) (a : Assembler) (s : State) : assemblerOf (setAssembler link a s) link = a := by
  cases link <;> rfl

theorem setAssembler_setAssembler (link : Link) (a b : Assembler) (s : State) :
    setAssembler link b (setAssembler link a s) = setAssembler link b s := by
  cases link <;> rfl

theorem gapFrom_setAssembler (link : Link) (a : Assembler) (s : State) : gapFrom (setAssembler link a s) = gapFrom s := by
  cases link <;> rfl

/-- The state inside a frame: the phase, and the bytes taken behind the sync byte. -/
def inFrame (link : Link) (phase : RxPhase) (bytes : List Byte) (s : State) : State :=
  setAssembler link (.receiving phase bytes (gapFrom s)) s

theorem receiveByte_inFrame (link : Link) (phase : RxPhase) (bytes : List Byte) (b : Byte) (s : State) :
    receiveByte link b false (inFrame link phase bytes s) = takeByte link phase bytes b (inFrame link phase bytes s) := by
  rw [receiveByte, inFrame, assemblerOf_setAssembler]
  rfl

theorem setAssembler_inFrame (link : Link) (phase phase' : RxPhase) (bytes bytes' : List Byte) (s : State) :
    setAssembler link (.receiving phase' bytes' (gapFrom (inFrame link phase bytes s))) (inFrame link phase bytes s) =
      inFrame link phase' bytes' s := by
  rw [inFrame, gapFrom_setAssembler, setAssembler_setAssembler]
  rfl

theorem receiveByte_length (link : Link) (bytes : List Byte) (b : Byte) (s : State) :
    receiveByte link b false (inFrame link .length bytes s) = inFrame link .kind [b] s := by
  rw [receiveByte_inFrame, takeByte, setAssembler_inFrame]

theorem receiveByte_kind {link : Link} {len kind : Byte} (s : State) (h : bodySize link kind = some len.toNat) :
    receiveByte link kind false (inFrame link .kind [len] s) = inFrame link .body [len, kind] s := by
  have hlength : bodySize link kind = some (takenLength [len]) := h
  rw [receiveByte_inFrame, takeByte, if_pos hlength, setAssembler_inFrame, if_neg (bodySize_ne_zero hlength)]
  rfl

theorem receiveByte_body (link : Link) (taken : List Byte) (b : Byte) (s : State) :
    receiveByte link b false (inFrame link .body taken s) =
      inFrame link (if taken.length + 1 = takenLength taken + 2 then .check else .body) (taken ++ [b]) s := by
  rw [receiveByte_inFrame, takeByte, setAssembler_inFrame]

/-- The last bytes of a body end in the phase CHECK. -/
theorem afterBytes_body (link : Link) (rest : List Byte) (hrest : rest ≠ []) (taken : List Byte) (htaken : taken ≠ []) (s : State)
    (hlength : taken.length + rest.length = takenLength taken + 2) :
    afterBytes link rest (inFrame link .body taken s) = inFrame link .check (taken ++ rest) s := by
  induction rest generalizing taken with
  | nil => exact absurd rfl hrest
  | cons b rest ih =>
    have hstep : afterBytes link (b :: rest) (inFrame link .body taken s) =
        afterBytes link rest (receiveByte link b false (inFrame link .body taken s)) := rfl
    rw [List.length_cons] at hlength
    rw [hstep, receiveByte_body]
    cases rest with
    | nil =>
      rw [if_pos (by simpa using hlength)]
      rfl
    | cons c rest =>
      rw [List.length_cons] at hlength
      rw [if_neg (by omega), ih (List.cons_ne_nil c rest) (taken ++ [b]) (by simp)
        (by rw [takenLength_append _ (List.length_pos_of_ne_nil htaken), List.length_append, List.length_singleton, List.length_cons]; omega),
        List.append_assoc]
      rfl

theorem receiveByte_firstCheck {link : Link} {taken : List Byte} (b : Byte) (s : State)
    (h : taken.length = takenLength taken + 2) :
    receiveByte link b false (inFrame link .check taken s) = inFrame link .check (taken ++ [b]) s := by
  rw [receiveByte_inFrame, takeByte, if_pos h, setAssembler_inFrame]

/-- The second check byte of a good check delivers the frame. -/
theorem receiveByte_lastCheck {link : Link} {len kind lo hi : Byte} {body : List Byte} (s : State)
    (hlen : len.toNat = body.length) (hcheck : [lo, hi] = le16 (crc16 (len :: kind :: body))) :
    receiveByte link hi false (inFrame link .check (len :: kind :: body ++ [lo]) s) =
      deliverFrame link kind body (setAssembler link .hunt s) := by
  have htaken : takenLength (len :: kind :: body ++ [lo]) = body.length := hlen
  have hcovered : (len :: kind :: body ++ [lo]).take (body.length + 2) = len :: kind :: body :=
    List.take_left' (by simp)
  have hlow : byteAt (len :: kind :: body ++ [lo]) (body.length + 2) = lo := by simp [byteAt]
  have hlength : (len :: kind :: body ++ [lo]).length ≠ body.length + 2 := by simp
  rw [receiveByte_inFrame, takeByte, htaken, if_neg hlength, completeFrame, htaken, hcovered, hlow, if_pos hcheck, inFrame,
    setAssembler_setAssembler]
  rfl

/-- A frame of a kind and length that the link knows delivers its body (R150). -/
theorem afterBytes_frameOf {link : Link} {kind : Byte} {body : List Byte} {s : State}
    (hhunt : assemblerOf s link = .hunt) (hsize : bodySize link kind = some body.length) (hlt : body.length < 256) :
    afterBytes link (frameOf kind body) s = deliverFrame link kind body (setAssembler link .hunt s) := by
  have hlen : (byteOf body.length).toNat = body.length := byteOf_toNat_of_lt hlt
  have hsync : receiveByte link 0xA5#8 false s = inFrame link .length [] s := by
    rw [receiveByte, hhunt]
    exact if_pos ⟨rfl, rfl⟩
  have hbody : body ≠ [] := fun h => bodySize_ne_zero hsize (by rw [h]; rfl)
  obtain ⟨lo, hi, hcheck⟩ : ∃ lo hi, le16 (crc16 (byteOf body.length :: kind :: body)) = [lo, hi] := ⟨_, _, rfl⟩
  have hframe : frameOf kind body = [0xA5#8, byteOf body.length, kind] ++ (body ++ [lo, hi]) := by
    rw [frameOf_eq, hcheck]
  have htaken : takenLength ([byteOf body.length, kind] ++ body) = body.length := hlen
  calc afterBytes link (frameOf kind body) s
    _ = afterBytes link [lo, hi] (afterBytes link body (receiveByte link kind false
          (receiveByte link (byteOf body.length) false (receiveByte link 0xA5#8 false s)))) := by
      rw [hframe, afterBytes, List.foldl_append, List.foldl_append]
      rfl
    _ = afterBytes link [lo, hi] (inFrame link .check ([byteOf body.length, kind] ++ body) s) := by
      rw [hsync, receiveByte_length, receiveByte_kind s (hsize.trans (congrArg some hlen.symm)),
        afterBytes_body link body hbody _ (List.cons_ne_nil _ _) s (by
          rw [show takenLength [byteOf body.length, kind] = body.length from hlen, List.length_cons, List.length_singleton]
          omega)]
    _ = receiveByte link hi false (inFrame link .check ([byteOf body.length, kind] ++ body ++ [lo]) s) := by
      rw [← receiveByte_firstCheck lo s (by rw [htaken, List.length_append, List.length_cons, List.length_singleton]; omega)]
      rfl
    _ = deliverFrame link kind body (setAssembler link .hunt s) := receiveByte_lastCheck s hlen hcheck.symm

/-- Settles O44: the bytes run the assembler's phases, and the complete frame holds the message of its layout. -/
theorem frameBytesDeliverTheirMessage : Obligations.FrameBytesDeliverTheirMessage := by
  refine ⟨fun kind body s => ⟨fun m hhunt hlayout => ?_, fun m hhunt hlayout => ?_⟩, fun kind body =>
    ⟨detectionMsg_eq_some_iff kind body, junctionMsg_eq_some_iff kind body, fun link n => bodySize_eq_some_iff link kind n,
      fun h => ?_, fun h => ?_, fun _ => ⟨frameParts_frameOf kind body, ?_⟩⟩, by decide +kernel⟩
  · have hmsg := (detectionMsg_eq_some_iff kind body m).mpr hlayout
    obtain ⟨rfl, hlength, -⟩ := detectionRead_of_layout hlayout
    have hsize : bodySize .detection (detectionNumber m) = some body.length := by
      rw [hlength]
      cases m <;> rfl
    have hlt : body.length < 256 := by
      rw [hlength]
      cases m <;> simp [detectionLength]
    rw [runCommands_received, afterBytes_frameOf (link := .detection) hhunt hsize hlt, deliverFrame, hmsg]
    cases m <;> rfl
  · have hmsg := (junctionMsg_eq_some_iff kind body m).mpr hlayout
    obtain ⟨rfl, hlength, -⟩ := junctionRead_of_layout hlayout
    have hsize : bodySize .junction (junctionNumber m) = some body.length := by
      rw [hlength]
      cases m <;> rfl
    have hlt : body.length < 256 := by
      rw [hlength]
      cases m <;> simp [junctionLength]
    rw [runCommands_received, afterBytes_frameOf (link := .junction) hhunt hsize hlt, deliverFrame, hmsg, exec_frameCommand]
  · obtain ⟨m, rfl, hlength⟩ := detectionNumber_of_linkKinds h
    exact ⟨detectionRead body m, detectionLayout_detectionRead hlength⟩
  · obtain ⟨m, rfl, hlength⟩ := junctionNumber_of_linkKinds h
    exact ⟨junctionRead body m, junctionLayout_junctionRead hlength⟩
  · simp [frameOf]

end Sys2Proof.Proofs

/-! The corridor clear: accepted grants released, offers ended, the table emptied (O60). -/

namespace Sys2Proof.Proofs

open Sys2Proof.Machine Sys2Proof.Safety Sys2Proof.Laws

/-! ### The accepted grants released (R118, R123) -/

/-- The grant tag of the holder of a junction's grant. -/
def tagFor (s : State) (j : JunctionId) : Option Byte := (junctionAt s j).grant.bind fun g => grantTagAt s g.slot

/-- A junction whose accepted grant has been released and ended. -/
def releasedContext (now : Time) (c : Junction) : Junction :=
  c.grant.elim c fun g =>
    { c with grant := none, releaseQueued := true, adjustment := adjusted c.adjustment (giveBack now c g) }

/-- An entry once the junctions of a list have been released: a RELEASE queued for one of them takes its grant tag. -/
def retagged (s : State) (l : List JunctionId) (d : Directive) : Directive :=
  if d.junction ∈ l ∧ d.kind = .release then { d with tag := (tagFor s d.junction).getD d.tag } else d

/-- The directive queue and the transmitter once the junctions of a list have been released, the new entries being
`new`. -/
structure ReleasesJoined (now : Time) (l : List JunctionId) (s t : State) (new : List Directive) : Prop where
  directives : t.directives = s.directives.map (retagged s l) ++ new
  nodup : (new.map Directive.junction).Nodup
  junctions : ∀ j : JunctionId, j ∈ new.map Directive.junction ↔ j ∈ l ∧ (junctionAt s j).releaseQueued = false
  releases : ∀ d ∈ new, d.kind = .release ∧ tagFor s d.junction = some d.tag
  busy : s.transmitter.isSome = true ∨ new = [] → t.transmitter = s.transmitter ∧ ∀ d ∈ new, d.sending = false
  idle : s.transmitter = none → ∀ d rest, new = d :: rest → d.sending = true ∧ (∀ e ∈ rest, e.sending = false)
    ∧ ∃ frame : List Byte, DirectiveLayout d frame ∧ t.transmitter = some { frame := frame, since := now }

/-- The accepted grants of the junctions of a list have been released and ended. -/
structure GrantsReleased (now : Time) (l : List JunctionId) (s t : State) : Prop where
  contexts : ∀ j : JunctionId, junctionAt t j = if j ∈ l then releasedContext now (junctionAt s j) else junctionAt s j
  slots : t.slots = s.slots
  notices : t.notices = s.notices
  frame : outside t = outside s
  joined : ∃ new, ReleasesJoined now l s t new

theorem retagged_nil (s : State) (d : Directive) : retagged s [] d = d := if_neg fun h => List.not_mem_nil h.1

theorem grantsReleased_nil (now : Time) (s : State) : GrantsReleased now [] s s where
  contexts _ := rfl
  slots := rfl
  notices := rfl
  frame := rfl
  joined := ⟨[],
    { directives := by
        rw [List.append_nil]
        exact (List.map_id'' (retagged_nil s) s.directives).symm
      nodup := List.nodup_nil
      junctions := fun j => by simp
      releases := nofun
      busy := fun _ => ⟨rfl, nofun⟩
      idle := nofun }⟩

section

variable {now : Time} {l : List JunctionId} {s t u : State} {new : List Directive} {j : JunctionId} {tag : Byte}

/-- A junction whose RELEASE is queued already gives it the grant tag (R118). -/
theorem ReleasesJoined.merged (h : ReleasesJoined now l s t new) (hj : j ∉ l) (htag : tagFor s j = some tag)
    (hset : (junctionAt s j).releaseQueued = true)
    (hd : u.directives = t.directives.map (fun d => if d.junction = j ∧ d.kind = .release then { d with tag := tag } else d))
    (ht : u.transmitter = t.transmitter) : ReleasesJoined now (l ++ [j]) s u new where
  directives := by
    have hnew : ∀ d ∈ new, (if d.junction = j ∧ d.kind = .release then { d with tag := tag } else d) = d := fun d hmem => by
      refine if_neg fun hrelease => hj ?_
      rw [← hrelease.1]
      exact ((h.junctions d.junction).mp (List.mem_map_of_mem hmem)).1
    rw [hd, h.directives, List.map_append, List.map_congr_left hnew, List.map_id', List.map_map]
    refine congrArg (· ++ new) (List.map_congr_left fun d _ => ?_)
    unfold retagged
    by_cases hdj : d.junction = j
    · subst hdj
      by_cases hkind : d.kind = .release
      · simp [hj, hkind, htag]
      · simp [hkind]
    · by_cases hmem : d.junction ∈ l ∧ d.kind = .release
      · simp [hdj, hmem]
      · simp [hdj, hmem]
  nodup := h.nodup
  junctions k := by
    rw [h.junctions, List.mem_append, List.mem_singleton]
    constructor
    · exact fun hk => ⟨.inl hk.1, hk.2⟩
    · rintro ⟨hk | rfl, hclear⟩
      · exact ⟨hk, hclear⟩
      · rw [hset] at hclear
        cases hclear
  releases := h.releases
  busy hb := by
    rw [ht]
    exact h.busy hb
  idle hi := by
    rw [ht]
    exact h.idle hi

/-- A queue without a RELEASE of junction j is tagged as before. -/
theorem map_retagged_append (hnone : entriesOf s j true = []) :
    s.directives.map (retagged s (l ++ [j])) = s.directives.map (retagged s l) := by
  refine List.map_congr_left fun d hd => if_congr ?_ rfl rfl
  rw [List.mem_append, List.mem_singleton]
  constructor
  · rintro ⟨hmem | hdj, hkind⟩
    · exact ⟨hmem, hkind⟩
    · have hentry : d ∈ entriesOf s j true :=
        List.mem_filter.mpr ⟨hd, by rw [decide_eq_true hdj, isRelease_iff.mpr hkind]; rfl⟩
      rw [hnone] at hentry
      cases hentry
  · exact fun h => ⟨.inl h.1, h.2⟩

/-- A junction with no RELEASE queued gets a new one, which is SENDING at once where the line is free (R118, R156, R157). -/
theorem ReleasesJoined.queued (h : ReleasesJoined now l s t new) (hj : j ∉ l) (htag : tagFor s j = some tag)
    (hclear : (junctionAt s j).releaseQueued = false) (hnone : entriesOf s j true = [])
    (hidle : s.transmitter = none → s.directives = [])
    (hd : u.directives = (queueDirective now j .release tag t).directives)
    (ht : u.transmitter = (queueDirective now j .release tag t).transmitter) :
    ∃ new', ReleasesJoined now (l ++ [j]) s u new' := by
  have hfresh : ∀ e : Directive, e.junction = j → e.kind = .release → e.tag = tag →
      ((new ++ [e]).map Directive.junction).Nodup
        ∧ (∀ k : JunctionId, k ∈ (new ++ [e]).map Directive.junction ↔ k ∈ l ++ [j] ∧ (junctionAt s k).releaseQueued = false)
        ∧ ∀ d ∈ new ++ [e], d.kind = .release ∧ tagFor s d.junction = some d.tag := by
    intro e hjunction hkind hetag
    rw [List.map_append, List.map_singleton, hjunction]
    refine ⟨?_, fun k => ?_, fun d hmem => ?_⟩
    · refine List.nodup_append.mpr ⟨h.nodup, List.nodup_singleton j, fun a ha b hb hab => hj ?_⟩
      exact ((h.junctions j).mp (hab.trans (List.mem_singleton.mp hb) ▸ ha)).1
    · rw [List.mem_append, List.mem_append, List.mem_singleton, h.junctions]
      constructor
      · rintro (hk | rfl)
        · exact ⟨.inl hk.1, hk.2⟩
        · exact ⟨.inr rfl, hclear⟩
      · rintro ⟨hk | rfl, hkclear⟩
        · exact .inl ⟨hk, hkclear⟩
        · exact .inr rfl
    · rcases List.mem_append.mp hmem with hmem | hmem
      · exact h.releases d hmem
      · obtain rfl := List.mem_singleton.mp hmem
        rw [hjunction, hetag]
        exact ⟨hkind, htag⟩
  by_cases hfree : s.transmitter = none ∧ new = []
  · obtain ⟨hnot, rfl⟩ := hfree
    have hempty : t.directives = [] := by rw [h.directives, hidle hnot]; rfl
    have hline : t.transmitter = none := (h.busy (.inr rfl)).1.trans hnot
    obtain ⟨hnodup, hjunctions, hreleases⟩ := hfresh ⟨j, .release, tag, true⟩ rfl rfl rfl
    have hsent := transmitNext_append_cons (now := now) (pre := []) (post := [])
      (d := { junction := j, kind := .release, tag := tag, sending := false })
      (s := { t with directives := t.directives ++ [{ junction := j, kind := .release, tag := tag, sending := false }] })
      hline (by rw [hempty, List.nil_append]) rfl nofun (fun _ => nofun)
    have hd' := hd.trans (congrArg State.directives hsent)
    have ht' := ht.trans (congrArg State.transmitter hsent)
    refine ⟨_, ⟨?_, hnodup, hjunctions, hreleases, fun hb => ?_, fun _ d rest hcons => ?_⟩⟩
    · rw [hd', hidle hnot]
      rfl
    · rcases hb with hb | hb
      · rw [hnot] at hb
        cases hb
      · cases hb
    · obtain ⟨rfl, rfl⟩ := List.cons.inj hcons
      exact ⟨rfl, nofun, _, directiveLayout_directiveFrame _, ht'⟩
  · have hbusy : t.transmitter.isSome = true := by
      cases hline : s.transmitter with
      | some x => rw [(h.busy (.inl (by rw [hline]; rfl))).1, hline]; rfl
      | none =>
        cases hnew : new with
        | nil => exact absurd ⟨hline, hnew⟩ hfree
        | cons d rest =>
          obtain ⟨-, -, frame, -, hframe⟩ := h.idle hline d rest hnew
          rw [hframe]
          rfl
    have hwaits : queueDirective now j .release tag t =
        { t with directives := t.directives ++ [{ junction := j, kind := .release, tag := tag, sending := false }] } :=
      transmitNext_of_busy (s := { t with directives := t.directives ++ [_] }) hbusy
    obtain ⟨hnodup, hjunctions, hreleases⟩ := hfresh ⟨j, .release, tag, false⟩ rfl rfl rfl
    have ht' : u.transmitter = t.transmitter := by rw [ht, hwaits]
    refine ⟨_, ⟨?_, hnodup, hjunctions, hreleases, fun hb => ?_, fun hi d rest hcons => ?_⟩⟩
    · rw [hd, hwaits, map_retagged_append hnone, ← List.append_assoc, ← h.directives]
    · have hsome : s.transmitter.isSome = true := hb.resolve_right (by simp)
      obtain ⟨hsame, hwaiting⟩ := h.busy (.inl hsome)
      refine ⟨ht'.trans hsame, fun d hmem => ?_⟩
      rcases List.mem_append.mp hmem with hmem | hmem
      · exact hwaiting d hmem
      · obtain rfl := List.mem_singleton.mp hmem
        rfl
    · cases hnew : new with
      | nil => exact absurd ⟨hi, hnew⟩ hfree
      | cons d' rest' =>
        rw [hnew, List.cons_append] at hcons
        obtain ⟨rfl, rfl⟩ := List.cons.inj hcons
        obtain ⟨hsending, hrest, frame, hlayout, hframe⟩ := h.idle hi d' rest' hnew
        refine ⟨hsending, fun e hmem => ?_, frame, hlayout, ht'.trans hframe⟩
        rcases List.mem_append.mp hmem with hmem | hmem
        · exact hrest e hmem
        · obtain rfl := List.mem_singleton.mp hmem
          rfl

/-- What the clear needs of a junction with an accepted grant: the holder's tag, the grant's step, and the queue's
promises. -/
structure Releasable (s : State) (j : JunctionId) (g : Grant) (tag : Byte) : Prop where
  grant : (junctionAt s j).grant = some g
  tag : grantTagAt s g.slot = some tag
  step : g.step < (activeSteps (junctionAt s j)).length
  entries : (junctionAt s j).releaseQueued = false → entriesOf s j true = []

theorem GrantsReleased.snoc (h : GrantsReleased now l s t) (hidle : s.transmitter = none → s.directives = []) (hj : j ∉ l)
    {g : Grant} (hr : Releasable s j g tag) : GrantsReleased now (l ++ [j]) s (clearAccepted now j t) := by
  obtain ⟨hgrant, htag, hstep, hentries⟩ := hr
  have hself : junctionAt t j = junctionAt s j := by rw [h.contexts, if_neg hj]
  have htag' : grantTagAt t g.slot = some tag := (grantTagAt_congr h.slots _).trans htag
  have htagFor : tagFor s j = some tag := by rw [tagFor, hgrant, Option.bind_some, htag]
  have hcleared : clearAccepted now j t = clearGrant j (releaseGrant now j g t) := by
    rw [clearAccepted, hself, hgrant]
  have hjoins := releaseJoins_releaseGrant now j htag'
  obtain ⟨new, hnew⟩ := h.joined
  rw [hcleared]
  refine ⟨fun k => ?_, (releaseGrant_slots ..).trans h.slots, (releaseGrant_notices ..).trans h.notices,
    (outside_releaseGrant ..).trans h.frame, ?_⟩
  · rw [clearGrant, junctionAt_onJunction, junctionAt_releaseGrant now j htag' (hself ▸ hstep), hself]
    by_cases hk : j = k
    · subst hk
      rw [if_pos rfl, if_pos rfl, if_pos (by simp), releasedContext, hgrant]
      rfl
    · rw [if_neg hk, if_neg hk, h.contexts]
      exact if_congr (by simp [Ne.symm hk]) rfl rfl
  · unfold ReleaseJoins at hjoins
    rw [hself] at hjoins
    cases hqueued : (junctionAt s j).releaseQueued with
    | true =>
      rw [hqueued, if_pos rfl] at hjoins
      exact ⟨new, hnew.merged hj htagFor hqueued hjoins.1 hjoins.2⟩
    | false =>
      rw [hqueued, if_neg Bool.false_ne_true] at hjoins
      exact hnew.queued hj htagFor hqueued (hentries hqueued) hidle hjoins.1 hjoins.2

end

theorem grantsReleased_foldl {now : Time} {s : State} (hidle : s.transmitter = none → s.directives = [])
    (l : List JunctionId) (hnodup : l.Nodup) (hall : ∀ j ∈ l, ∃ g tag, Releasable s j g tag) :
    GrantsReleased now l s (l.foldl (fun t j => clearAccepted now j t) s) := by
  induction l using List.reverseRecOn with
  | nil => exact grantsReleased_nil now s
  | append_singleton l j ih =>
    rw [List.nodup_append] at hnodup
    obtain ⟨hl, -, hdisjoint⟩ := hnodup
    obtain ⟨g, tag, hr⟩ := hall j (by simp)
    rw [List.foldl_append]
    exact (ih hl fun k hk => hall k (List.mem_append_left _ hk)).snoc hidle
      (fun hj => hdisjoint j hj j (List.mem_singleton_self j) rfl) hr

/-! ### The offers ended (R121, R123) -/

/-- A junction holds an offer. -/
def offeredAt (s : State) (j : JunctionId) : Bool := (junctionAt s j).grant.any fun g => !g.accepted

/-- A junction whose offer has ended, its directive unsent or not. -/
def offerEnded (unsent : Bool) (c : Junction) : Junction :=
  if unsent then { c with grant := none, outstanding := none, acceptDeadline := none } else { c with grant := none }

/-- The offers of the junctions of a list have ended, their unsent directives taken out of the queue. -/
structure OffersEnded (l : List JunctionId) (s t : State) : Prop where
  contexts : ∀ j : JunctionId, junctionAt t j =
    if j ∈ l ∧ offeredAt s j = true then offerEnded (s.directives.any (waitingEntry j isGrantKind)) (junctionAt s j)
    else junctionAt s j
  directives : t.directives = s.directives.filter fun d =>
    !(decide (d.junction ∈ l) && offeredAt s d.junction && (!d.sending && isGrantKind d.kind))
  slots : t.slots = s.slots
  notices : t.notices = s.notices
  transmitter : t.transmitter = s.transmitter
  frame : outside t = outside s

theorem offersEnded_nil (s : State) : OffersEnded [] s s where
  contexts j := (if_neg fun h => List.not_mem_nil h.1).symm
  directives := by simp
  slots := rfl
  notices := rfl
  transmitter := rfl
  frame := rfl

theorem modeOf_eq_offered_iff (s : State) (j : JunctionId) :
    modeOf (junctionAt s j) = .offered ↔ offeredAt s j = true := by
  unfold offeredAt
  cases hg : (junctionAt s j).grant with
  | none => simp [modeOf, hg]
  | some g =>
    rw [modeOf_of_some hg]
    cases hacc : g.accepted <;> cases g.kind <;> simp [hacc]

theorem OffersEnded.snoc {l : List JunctionId} {s t : State} {j : JunctionId} (h : OffersEnded l s t) (hj : j ∉ l) :
    OffersEnded (l ++ [j]) s (clearOffered j t) := by
  have hself : junctionAt t j = junctionAt s j := by rw [h.contexts, if_neg fun hmem => hj hmem.1]
  have hoffered : modeOf (junctionAt t j) = .offered ↔ offeredAt s j = true := by
    rw [hself]
    exact modeOf_eq_offered_iff s j
  have hdropped := mem_snoc_and (fun k => offeredAt s k) l j
  have hothers : ∀ k, k ≠ j → (k ∈ l ++ [j] ↔ k ∈ l) := fun k hk => by simp [hk]
  unfold clearOffered
  cases hcase : offeredAt s j with
  | false =>
    rw [if_neg (mt hoffered.mp (by rw [hcase]; exact Bool.false_ne_true))]
    refine ⟨fun k => ?_, ?_, h.slots, h.notices, h.transmitter, h.frame⟩
    · rw [h.contexts]
      refine if_congr ?_ rfl rfl
      by_cases hk : k = j
      · subst hk
        simp [hcase]
      · rw [hothers k hk]
    · simp only [hdropped, hcase, Bool.and_false, Bool.or_false]
      exact h.directives
  | true =>
    have hunsent : t.directives.any (waitingEntry j isGrantKind) = s.directives.any (waitingEntry j isGrantKind) := by
      rw [h.directives, Bool.eq_iff_iff, List.any_eq_true, List.any_eq_true]
      constructor
      · rintro ⟨d, hd, hwaiting⟩
        exact ⟨d, List.mem_of_mem_filter hd, hwaiting⟩
      · rintro ⟨d, hd, hwaiting⟩
        refine ⟨d, List.mem_filter.mpr ⟨hd, ?_⟩, hwaiting⟩
        have hdj : d.junction = j := by
          rw [waitingEntry, Bool.and_assoc, Bool.and_eq_true, decide_eq_true_eq] at hwaiting
          exact hwaiting.1
        rw [hdj, decide_eq_false hj]
        rfl
    have hended : endOffered j t = onJunction j (offerEnded (t.directives.any (waitingEntry j isGrantKind)))
        { t with directives := t.directives.filter fun d => !waitingEntry j isGrantKind d } := endOffered_eq j t
    rw [if_pos (hoffered.mpr hcase), hended, hunsent]
    refine ⟨fun k => ?_, ?_, h.slots, h.notices, h.transmitter, h.frame⟩
    · rw [junctionAt_onJunction]
      by_cases hk : j = k
      · subst hk
        rw [if_pos rfl, if_pos ⟨by simp, hcase⟩]
        exact congrArg (offerEnded _) hself
      · rw [if_neg hk]
        refine (h.contexts k).trans (if_congr ?_ rfl rfl)
        rw [hothers k (Ne.symm hk)]
    · refine (congrArg (List.filter _) h.directives).trans ((List.filter_filter ..).trans ?_)
      refine List.filter_congr fun d _ => ?_
      simp only [hdropped, hcase, waitingEntry]
      cases decide (d.junction ∈ l) && offeredAt s d.junction <;> cases decide (d.junction = j) <;>
        cases d.sending <;> cases isGrantKind d.kind <;> rfl

theorem offersEnded_foldl (s : State) (l : List JunctionId) (hnodup : l.Nodup) :
    OffersEnded l s (l.foldl (fun t j => clearOffered j t) s) := by
  induction l using List.reverseRecOn with
  | nil => exact offersEnded_nil s
  | append_singleton l j ih =>
    rw [List.nodup_append] at hnodup
    obtain ⟨hl, -, hdisjoint⟩ := hnodup
    rw [List.foldl_append]
    exact (ih hl).snoc fun hj => hdisjoint j hj j (List.mem_singleton_self j) rfl

/-! ### The clear (R168) -/

theorem acceptedJunctions_nodup (s : State) : (acceptedJunctions s).Nodup :=
  (acceptedJunctions_perm s).nodup_iff.mpr ((List.nodup_finRange 16).filter _)

theorem eq_without_grant {c : Junction} (h : c.grant = none) : c = { c with grant := none } := by
  cases c
  obtain rfl := h
  rfl

section

variable {now : Time} {s r e : State} {l : List JunctionId}

theorem offeredAt_released (h : GrantsReleased now (acceptedJunctions s) s r) (j : JunctionId) :
    offeredAt r j = offeredAt s j := by
  unfold offeredAt
  rw [h.contexts]
  split
  · next hmem =>
    obtain ⟨g, hg, haccepted⟩ := mem_acceptedJunctions.mp hmem
    rw [releasedContext, hg, Option.elim_some, Option.any_some, haccepted]
    rfl
  · rfl

/-- The unsent offer of a junction stands in the queue as it did before the releases. -/
theorem any_waiting_released (h : GrantsReleased now (acceptedJunctions s) s r) (j : JunctionId) :
    r.directives.any (waitingEntry j isGrantKind) = s.directives.any (waitingEntry j isGrantKind) := by
  obtain ⟨new, hnew⟩ := h.joined
  have hsame : waitingEntry j isGrantKind ∘ retagged s (acceptedJunctions s) = waitingEntry j isGrantKind := by
    funext d
    rw [Function.comp_apply, retagged]
    split <;> rfl
  have hnone : new.any (waitingEntry j isGrantKind) = false := by
    rw [List.any_eq_false]
    intro d hd
    rw [waitingEntry, (hnew.releases d hd).1]
    simp [isGrantKind]
  rw [hnew.directives, List.any_append, List.any_map, hsame, hnone, Bool.or_false]

variable (h : GrantsReleased now (acceptedJunctions s) s r) (he : OffersEnded l r e) (hl : ∀ j, j ∈ l)

include h he

theorem context_of_none {j : JunctionId} (hg : (junctionAt s j).grant = none) :
    junctionAt e j = { junctionAt s j with grant := none } := by
  have hoffered : ¬offeredAt s j = true := by simp [offeredAt, hg]
  have hmem : j ∉ acceptedJunctions s := fun hmem => by
    obtain ⟨g, hg', -⟩ := mem_acceptedJunctions.mp hmem
    rw [hg] at hg'
    cases hg'
  rw [he.contexts, offeredAt_released h, if_neg fun hboth => hoffered hboth.2, h.contexts, if_neg hmem]
  exact eq_without_grant hg

theorem context_of_accepted {j : JunctionId} {g : Grant} (hg : (junctionAt s j).grant = some g) (hacc : g.accepted = true) :
    junctionAt e j =
      { junctionAt s j with
        grant := none
        releaseQueued := true
        adjustment := adjusted (junctionAt s j).adjustment (giveBack now (junctionAt s j) g) } := by
  have hoffered : ¬offeredAt s j = true := by simp [offeredAt, hg, hacc]
  rw [he.contexts, offeredAt_released h, if_neg fun hboth => hoffered hboth.2, h.contexts,
    if_pos (mem_acceptedJunctions.mpr ⟨g, hg, hacc⟩), releasedContext, hg]
  rfl

include hl

theorem context_of_offered {j : JunctionId} {g : Grant} (hg : (junctionAt s j).grant = some g) (hacc : g.accepted = false) :
    junctionAt e j = offerEnded (s.directives.any (waitingEntry j isGrantKind)) (junctionAt s j) := by
  have hoffered : offeredAt s j = true := by simp [offeredAt, hg, hacc]
  have hmem : j ∉ acceptedJunctions s := fun hmem => by
    obtain ⟨g', hg', hacc'⟩ := mem_acceptedJunctions.mp hmem
    obtain rfl := Option.some.inj (hg.symm.trans hg')
    rw [hacc] at hacc'
    cases hacc'
  rw [he.contexts, offeredAt_released h, if_pos ⟨hl j, hoffered⟩, any_waiting_released h, h.contexts, if_neg hmem]

/-- The queue keeps its entries but the unsent offers, the released junctions' RELEASE entries tagged anew. -/
theorem directives_ended {new : List Directive} (hnew : ReleasesJoined now (acceptedJunctions s) s r new) :
    e.directives =
      (s.directives.filter fun d => !(!d.sending && isGrantKind d.kind && offeredAt s d.junction)).map
        (retagged s (acceptedJunctions s)) ++ new := by
  have hold : (fun d : Directive => !(decide (d.junction ∈ l) && offeredAt r d.junction && (!d.sending && isGrantKind d.kind)))
      = fun d => !(!d.sending && isGrantKind d.kind && offeredAt s d.junction) := by
    funext d
    rw [offeredAt_released h, decide_eq_true (hl d.junction), Bool.true_and, Bool.and_comm]
  have hsame : (fun d : Directive => !(!d.sending && isGrantKind d.kind && offeredAt s d.junction))
      ∘ retagged s (acceptedJunctions s) = fun d => !(!d.sending && isGrantKind d.kind && offeredAt s d.junction) := by
    funext d
    rw [Function.comp_apply, retagged]
    split <;> rfl
  have hkept : new.filter (fun d => !(!d.sending && isGrantKind d.kind && offeredAt s d.junction)) = new :=
    List.filter_eq_self.mpr fun d hd => by
      rw [(hnew.releases d hd).1]
      simp [isGrantKind]
  rw [he.directives, hold, hnew.directives, List.filter_append, hkept, List.filter_map, hsame]

end

/-- A junction with an accepted grant can be released where the tables and the queue keep their promises. -/
theorem releasable_of_accepted {s : State} {j : JunctionId} (htable : TableConsistent s) (hsound : DirectivesSound s)
    (hsteps : ∀ j : JunctionId, ∀ g ∈ (junctionAt s j).grant, g.step < (activeSteps (junctionAt s j)).length)
    (hj : j ∈ acceptedJunctions s) : ∃ g tag, Releasable s j g tag := by
  obtain ⟨g, hg, -⟩ := mem_acceptedJunctions.mp hj
  obtain ⟨-, -, ⟨hheld, -⟩, -⟩ := htable
  obtain ⟨r, hr, -, -, tag, htag, -⟩ := hheld j g hg
  obtain ⟨-, -, -, hdesks⟩ := hsound
  obtain ⟨hreleases, -⟩ := hdesks j
  refine ⟨g, tag, hg, (grantTagAt_eq hr).trans htag, hsteps j g hg, fun hclear => ?_⟩
  rw [hclear] at hreleases
  exact List.eq_nil_of_length_eq_zero hreleases

/-- The entries tagged anew, by the grant of their junction. -/
theorem retagged_accepted (s : State) (d : Directive) :
    retagged s (acceptedJunctions s) d =
      (junctionAt s d.junction).grant.elim d fun g =>
        if g.accepted = true ∧ d.kind = .release then { d with tag := (grantTagAt s g.slot).getD d.tag } else d := by
  unfold retagged tagFor
  simp only [mem_acceptedJunctions]
  cases (junctionAt s d.junction).grant with
  | none => simp
  | some g => simp

/-- Settles O60: the accepted grants are released one by one, then the offers end, and the table is emptied. -/
theorem corridorClearEmptiesTheTable : Obligations.CorridorClearEmptiesTheTable := by
  intro s hfree htable hsound hsteps
  obtain ⟨-, -, hidle, hdesks⟩ := id hsound
  have h : GrantsReleased s.time (acceptedJunctions s) s (releasedGrants s.time s) :=
    grantsReleased_foldl hidle _ (acceptedJunctions_nodup s) fun j hj => releasable_of_accepted htable hsound hsteps hj
  have he : OffersEnded (List.finRange 16) (releasedGrants s.time s) (endedGrants s.time s) :=
    offersEnded_foldl _ _ (List.nodup_finRange 16)
  have hcontext := junctionAt_corridorClear s.time s
  have hslot := slotAt_corridorClear s.time s
  have hclear := corridorClear_eq s.time s
  have hl : ∀ j, j ∈ List.finRange 16 := List.mem_finRange
  refine ⟨corridorClear s.time s, exec_of_command rfl hfree rfl, ?_⟩
  rw [hclear] at hcontext hslot ⊢
  generalize endedGrants s.time s = e at *
  generalize releasedGrants s.time s = r at *
  generalize List.finRange 16 = l at *
  obtain ⟨new, hnew⟩ := h.joined
  have hdirectives := directives_ended h he hl hnew
  have hslots : ∀ i, slotAt (emptiedTable e) i = vacate (slotAt s i) := fun i => by
    rw [hslot, slotAt_congr (he.slots.trans h.slots)]
  refine ⟨fun i => ⟨?_, ?_⟩, rfl, rfl, fun j => ?_, fun j g hg hacc => ?_, ⟨new, ?_, hnew.nodup, fun j => ?_, fun d hd => ?_,
    fun hb => ?_, fun hi d rest hcons => ?_⟩, he.notices.trans h.notices, ?_⟩
  · exact recordAt_of_vacated (hslots i)
  · rw [hslots, vacate, recordAt]
    cases (slotAt s i).record with
    | none => exact (BitVec.add_zero _).symm
    | some r => rfl
  · rw [hcontext]
    dsimp only
    cases hg : (junctionAt s j).grant with
    | none =>
      rw [context_of_none h he hg]
      rfl
    | some g =>
      cases hacc : g.accepted with
      | true =>
        rw [context_of_accepted h he hg hacc]
        dsimp only
        rw [if_pos hacc]
        rfl
      | false =>
        have hoffer : ¬g.accepted = true := by
          rw [hacc]
          exact Bool.false_ne_true
        rw [context_of_offered h he hl hg hacc]
        dsimp only
        rw [if_neg hoffer, offerEnded]
        have hunsent : s.directives.any (waitingEntry j isGrantKind) =
            s.directives.any fun d => decide (d.junction = j) && !d.sending && isGrantKind d.kind := rfl
        rw [← hunsent]
        split <;> rfl
  · obtain ⟨g', tag, hreleasable⟩ := releasable_of_accepted htable hsound hsteps (mem_acceptedJunctions.mpr ⟨g, hg, hacc⟩)
    obtain rfl := Option.some.inj (hg.symm.trans hreleasable.grant)
    refine ⟨tag, hreleasable.tag, ?_⟩
    have hmem := mem_acceptedJunctions.mpr ⟨g, hg, hacc⟩
    have htagFor : tagFor s j = some tag := by rw [tagFor, Option.mem_def.mp hg, Option.bind_some, hreleasable.tag]
    cases hqueued : (junctionAt s j).releaseQueued with
    | true =>
      have hentries : (entriesOf s j true).length = 1 := (hdesks j).1.trans (if_pos hqueued)
      obtain ⟨d, hd⟩ := List.exists_mem_of_length_pos (by rw [hentries]; exact Nat.one_pos)
      obtain ⟨hmemd, hpass⟩ := List.mem_filter.mp hd
      rw [Bool.and_eq_true, decide_eq_true_eq, beq_iff_eq, isRelease_iff] at hpass
      obtain ⟨hdj, hkind⟩ := hpass
      have htagged : retagged s (acceptedJunctions s) d = { d with tag := tag } := by
        rw [retagged, if_pos ⟨hdj ▸ hmem, hkind⟩, hdj, htagFor, Option.getD_some]
      have hkept : (!(!d.sending && isGrantKind d.kind && offeredAt s d.junction)) = true := by
        rw [hkind]
        simp [isGrantKind]
      refine ⟨{ d with tag := tag }, ?_, hdj, hkind, rfl⟩
      rw [← htagged]
      exact hdirectives ▸ List.mem_append_left _ (List.mem_map_of_mem (List.mem_filter.mpr ⟨hmemd, hkept⟩))
    | false =>
      obtain ⟨d, hd, hdj⟩ := List.mem_map.mp ((hnew.junctions j).mpr ⟨hmem, hqueued⟩)
      obtain ⟨hkind, htag⟩ := hnew.releases d hd
      refine ⟨d, ?_, hdj, hkind, ?_⟩
      · exact hdirectives ▸ List.mem_append_right _ hd
      · rw [hdj, htagFor] at htag
        exact (Option.some.inj htag).symm
  · refine hdirectives.trans ?_
    congr 2
    funext d
    rw [retagged_accepted]
    cases (junctionAt s d.junction).grant <;> rfl
  · rw [hnew.junctions, mem_acceptedJunctions, and_comm]
    rfl
  · obtain ⟨hkind, htag⟩ := hnew.releases d hd
    refine ⟨hkind, fun g hg => ?_⟩
    rw [tagFor, Option.mem_def.mp hg, Option.bind_some] at htag
    exact htag
  · obtain ⟨hsame, hwaiting⟩ := hnew.busy hb
    exact ⟨he.transmitter.trans hsame, hwaiting⟩
  · obtain ⟨hsending, hrest, frame, hlayout, hframe⟩ := hnew.idle hi d rest hcons
    exact ⟨hsending, hrest, frame, hlayout, he.transmitter.trans hframe⟩
  · have houtside := he.frame.trans h.frame
    have hemptied : outside (emptiedTable e) = { outside e with passages := [], freeCount := (outside e).freeCount + 1 } := rfl
    rw [hemptied, houtside]
    rfl

end Sys2Proof.Proofs
